-- ==== Sys2Proof/Word.lean ====
section
/-! DEFINITION. The word types of ISA/NG: an 8-bit byte and a 64-bit cell (00_scope.md R2, R9).
Arithmetic on cells is modulo 2^64, which is what `BitVec 64` computes. -/

namespace Sys2Proof

/-- A byte of memory, and the width of an opcode (R37, R80). -/
abbrev Byte := BitVec 8

/-- A cell: a stack entry, an address and the program counter are each 64 bits (R2, R21, R25). -/
abbrev Cell := BitVec 64

end Sys2Proof
end

