-- ==== Sys2Proof/Config.lean ====
section
/-! DEFINITION. The parameters of 00_scope.md R7, as plain data, and the functions the spec leaves
to the platform, as opaque constants (no body: nothing can be proved about their values).
A parameter that the table marks OPEN is a field here and its default value is the table's
default; the parameters the spec fixes (CELL, LIT_SIZES, ENDIAN, HAS_INTERRUPTS) are built into the
model. The parameters whose value is a function of the machine state (CRRead, CRWrite, TrapEnv)
are in Machine/Environment.lean, after the state they take. -/

namespace Sys2Proof

/-- The kind every memory access carries (20_memory.md R51). -/
inductive AccessKind where
  | fetch
  | load
  | store
  deriving DecidableEq, Repr, Inhabited

/-- The address a PC-relative displacement is added to: REL_BASE (R7, R275, decision D4). -/
inductive RelBase where
  /-- the address of the opcode byte: the default -/
  | opcode
  /-- the address after the displacement -/
  | next
  deriving DecidableEq, Repr, Inhabited

/-- Which of a store's two operands is the address: STORE_ORDER (R7, R325, decision D12). -/
inductive StoreOrder where
  /-- `( x a -- )`: the default -/
  | addrOnTop
  /-- `( a x -- )` -/
  | dataOnTop
  deriving DecidableEq, Repr, Inhabited

/-- The seven shifts and rotates of group 11 (47_shifts.md R291). -/
inductive ShiftOp where
  | lsl
  | lsr
  | asr
  | rl
  | rlc
  | rr
  | rrc
  deriving DecidableEq, Repr, Inhabited

/-- SHIFT_FN, the result for a count other than 1 (R7, R292, decision D9). -/
inductive ShiftFn where
  /-- the one-bit step applied count times: the default -/
  | iterate
  /-- any other function: the opaque `Config.freeShift` -/
  | platform
  deriving DecidableEq, Repr, Inhabited

/-- How `Access` is strengthened beyond MEM_POP (R51, R63, decision D19). -/
inductive Protection where
  /-- not at all: the default -/
  | none
  /-- by the platform's own predicate: the opaque `Config.freeAccess` -/
  | platform
  deriving DecidableEq, Repr, Inhabited

/-- Whether CRRead and CRWrite may answer with a trap (R36, R128, R129, R357). -/
inductive CrTraps where
  /-- they never do: the default of R357 -/
  | never
  /-- as the platform decides: the opaque predicates of Machine/Environment.lean -/
  | platform
  deriving DecidableEq, Repr, Inhabited

/-- TrapEnv, what the execution environment does with a trap (R7, R352, decisions D13 and D24). -/
inductive TrapPolicy where
  /-- every trap halts the run: the default -/
  | halt
  /-- as the platform answers: the opaque `Config.trapEnv` of Machine/Environment.lean -/
  | platform
  deriving DecidableEq, Repr, Inhabited

/-- A run of populated byte addresses: `size` bytes from `base`. -/
structure Region where
  base : Nat
  size : Nat
  deriving DecidableEq, Repr, Inhabited

/-- The parameters of 00_scope.md R7 that are OPEN. They do not change during a run (R39); the state
carries them so that a statement about every state is a statement about every setting (DESIGN
CHOICE 1, safe). The defaults of `memPop` and `resetPc`, for which the table gives none, are the values every test
vector of the spec takes (95_test_vectors.md; DESIGN CHOICE 8, unsafe). -/
structure Config where
  /-- REL_BASE -/
  relBase : RelBase := .opcode
  /-- PREFIX_PERSIST: a latch survives an instruction that does not consume it (R33) -/
  prefixPersist : Bool := false
  /-- SHIFT_FN -/
  shiftFn : ShiftFn := .iterate
  /-- DS_DEPTH, `none` for unbounded (R21) -/
  dsDepth : Option Nat := none
  /-- RS_DEPTH, `none` for unbounded (R22) -/
  rsDepth : Option Nat := none
  /-- STORE_ORDER -/
  storeOrder : StoreOrder := .addrOnTop
  /-- ALIGN_STRICT: a misaligned data access traps (R57) -/
  alignStrict : Bool := true
  /-- MEM_POP, the byte addresses that hold memory (R50) -/
  memPop : List Region := [⟨0x1000, 0x1000⟩]
  /-- what Access asks beyond MEM_POP (R51) -/
  protection : Protection := .none
  /-- RESET_PC (R40) -/
  resetPc : Cell := 0x1000#64
  /-- whether CRRead and CRWrite may answer with a trap (R36) -/
  crTraps : CrTraps := .never
  /-- EMULATE_CR (R357) -/
  emulateCr : Bool := false
  /-- EMULATE_DIEI (R357) -/
  emulateDiei : Bool := false
  /-- TrapEnv (R352) -/
  trapEnv : TrapPolicy := .halt
  /-- FETCH_COHERENT: a fetch sees every earlier store (R67) -/
  fetchCoherent : Bool := true
  deriving DecidableEq, Repr, Inhabited

/-- The platform's shift function, used for counts other than 1 when `shiftFn = .platform` (R292).
Open: no value of it is known (DESIGN CHOICE 3). Arguments: operation, operand, unsigned count, old carry. -/
opaque Config.freeShift : ShiftOp → Cell → Nat → Bool → Cell × Bool

/-- The platform's protection predicate, used when `protection = .platform` (R51, R63). Its first
argument is the platform's own state, which it may depend on (R39). Open: no value of it is known
(DESIGN CHOICE 3, unsafe for a platform whose protection depends on more). -/
opaque Config.freeAccess : Nat → Cell → Nat → AccessKind → Bool

end Sys2Proof
end

