-- ==== Sys2Proof/Syntax.lean ====
section
/-! DEFINITION. The syntax of ISA/NG: one constructor for each of the 256 rows of
spec/opcode_table.json, in the order of the formats of 30_encoding.md R82. An operand is the
immediate that follows the opcode, at the width its size field gives (R84, R95): a constructor
cannot hold an immediate of another width. The 74 listed illegal opcodes (R96) and the 52
unassigned ones (R97) are constructors too: executing one has a meaning, the illegal-opcode
trap. Four names of the source name two opcodes each (R101): the digit 1 or 2 at the end of a
constructor tells the BOOL1 row from the BOOL2 row. -/

namespace Sys2Proof

/-- An instruction of ISA/NG, one constructor per opcode byte. -/
inductive Instr where
  -- Group 0, miscellaneous (R83)
  /-- `BRK`, 0x00, R120 -/
  | brk
  /-- `SC`, 0x10, R121 -/
  | sc
  /-- `POP`, 0x20, R122 -/
  | pop
  /-- `PUSH`, 0x30, R123 -/
  | push
  /-- `JMPDI`, 0x40, R124 -/
  | jmpdi
  /-- `CALLDI`, 0x50, R125 -/
  | calldi
  /-- `RET`, 0x60, R126 -/
  | ret
  /-- `SWITCH`, 0x70, R127 -/
  | switch
  /-- `CR!`, 0x80, R128 -/
  | crStore
  /-- `CR@`, 0x90, R129 -/
  | crFetch
  /-- `DI`, 0xA0, R130 -/
  | di
  /-- `EI`, 0xB0, R131 -/
  | ei
  /-- `SEC`, 0xC0, R132 -/
  | sec
  /-- `R@`, 0xD0, R133 -/
  | rFetch
  -- Group 1, literals (R85)
  /-- `ULIT8`, 0x01, R151 -/
  | ulit8 (imm : BitVec 8)
  /-- `SLIT8`, 0x11, R152 -/
  | slit8 (imm : BitVec 8)
  /-- `ULIT16`, 0x21, R153 -/
  | ulit16 (imm : BitVec 16)
  /-- `SLIT16`, 0x31, R154 -/
  | slit16 (imm : BitVec 16)
  /-- `ULIT32`, 0x41, R155 -/
  | ulit32 (imm : BitVec 32)
  /-- `SLIT32`, 0x51, R156 -/
  | slit32 (imm : BitVec 32)
  /-- `ULIT64`, 0x61, R157 -/
  | ulit64 (imm : BitVec 64)
  /-- `SLIT64`, 0x71, R158 -/
  | slit64 (imm : BitVec 64)
  -- Groups 2 and 3, BOOL2 (R86)
  /-- `0`, 0x02, R173 -/
  | zero2
  /-- `2DROP 0`, 0x03, R189 -/
  | twodropZero
  /-- `2DUP AND`, 0x12, R174 -/
  | twodupAnd
  /-- `AND`, 0x13, R190 -/
  | and
  /-- `2DUP BIC`, 0x22, R175 -/
  | twodupBic
  /-- `BIC`, 0x23, R191 -/
  | bic
  /-- `OVER`, 0x32, R176 -/
  | over2
  /-- `DROP`, 0x33, R192 -/
  | drop
  /-- `2DUP SWAP BIC`, 0x42, R177 -/
  | twodupSwapBic
  /-- `SWAP BIC`, 0x43, R193 -/
  | swapBic
  /-- `DUP`, 0x52, R178 -/
  | dup2
  /-- `NIP`, 0x53, R194 -/
  | nip
  /-- `2DUP XOR`, 0x62, R179 -/
  | twodupXor
  /-- `XOR`, 0x63, R195 -/
  | xor
  /-- `2DUP OR`, 0x72, R180 -/
  | twodupOr
  /-- `OR`, 0x73, R196 -/
  | or
  /-- `2DUP NOR`, 0x82, R181 -/
  | twodupNor
  /-- `NOR`, 0x83, R197 -/
  | nor
  /-- `2DUP XNOR`, 0x92, R182 -/
  | twodupXnor
  /-- `XNOR`, 0x93, R198 -/
  | xnor
  /-- `DUP INVERT`, 0xA2, R183 -/
  | dupInvert2
  /-- `INVERT NIP`, 0xA3, R199 -/
  | invertNip
  /-- `2DUP INVERT OR`, 0xB2, R184 -/
  | twodupInvertOr
  /-- `INVERT OR`, 0xB3, R200 -/
  | invertOr
  /-- `OVER INVERT`, 0xC2, R185 -/
  | overInvert
  /-- `DROP INVERT`, 0xC3, R201 -/
  | dropInvert
  /-- `2DUP SWAP INVERT OR`, 0xD2, R186 -/
  | twodupSwapInvertOr
  /-- `SWAP INVERT OR`, 0xD3, R202 -/
  | swapInvertOr
  /-- `2DUP NAND`, 0xE2, R187 -/
  | twodupNand
  /-- `NAND`, 0xE3, R203 -/
  | nand
  /-- `-1`, 0xF2, R188 -/
  | negOne2
  /-- `2DROP -1`, 0xF3, R204 -/
  | twodropNegOne
  -- Groups 4 and 5, BOOL1 (R87)
  /-- `0`, 0x04, R212 -/
  | zero1
  /-- `DROP 0`, 0x05, R216 -/
  | dropZero
  /-- `DUP`, 0x14, R213 -/
  | dup1
  /-- `NOP`, 0x15, R217 -/
  | nop
  /-- `DUP INVERT`, 0x24, R214 -/
  | dupInvert1
  /-- `INVERT`, 0x25, R218 -/
  | invert
  /-- `-1`, 0x34, R215 -/
  | negOne1
  /-- `DROP -1`, 0x35, R219 -/
  | dropNegOne
  -- Groups 6 and 7, ADDSUB2 (R88)
  /-- `2DUP ADD`, 0x06, R228 -/
  | twodupAdd
  /-- `ADD`, 0x07, R236 -/
  | add
  /-- `2DUP ADD 1+`, 0x16, R229 -/
  | twodupAddPlus1
  /-- `ADD 1+`, 0x17, R237 -/
  | addPlus1
  /-- `2DUP ADC`, 0x26, R230 -/
  | twodupAdc
  /-- `ADC`, 0x27, R238 -/
  | adc
  /-- `2DUP ADC 1-`, 0x36, R231 -/
  | twodupAdcMinus1
  /-- `ADC 1-`, 0x37, R239 -/
  | adcMinus1
  /-- `2DUP SUB 1-`, 0x46, R232 -/
  | twodupSubMinus1
  /-- `SUB 1-`, 0x47, R240 -/
  | subMinus1
  /-- `2DUP SUB`, 0x56, R233 -/
  | twodupSub
  /-- `SUB`, 0x57, R241 -/
  | sub
  /-- `2DUP SBC`, 0x66, R234 -/
  | twodupSbc
  /-- `SBC`, 0x67, R242 -/
  | sbc
  /-- `2DUP SBC 1-`, 0x76, R235 -/
  | twodupSbcMinus1
  /-- `SBC 1-`, 0x77, R243 -/
  | sbcMinus1
  -- Groups 8 and 9, COND (R89)
  /-- `COND(always)`, 0x08, R253 -/
  | condAlways
  /-- `COND(never)`, 0x09, R254 -/
  | condNever
  /-- `COND(C=0)`, 0x18, R255 -/
  | condC0
  /-- `COND(C=1)`, 0x19, R256 -/
  | condC1
  /-- `COND(T<>0)`, 0x28, R257 -/
  | condNz
  /-- `COND(T=0)`, 0x29, R258 -/
  | condZ
  /-- `COND(T<>0&C=0)`, 0x38, R259 -/
  | condNzC0
  /-- `COND(T=0|C=1)`, 0x39, R260 -/
  | condZC1
  /-- `COND(T>=0)`, 0x48, R261 -/
  | condGe
  /-- `COND(T<0)`, 0x49, R262 -/
  | condLt
  /-- `COND(T>=0&C=0)`, 0x58, R263 -/
  | condGeC0
  /-- `COND(T<0|C=1)`, 0x59, R264 -/
  | condLtC1
  /-- `COND(T>0)`, 0x68, R265 -/
  | condGt
  /-- `COND(T<=0)`, 0x69, R266 -/
  | condLe
  /-- `COND(T>0&C=0)`, 0x78, R267 -/
  | condGtC0
  /-- `COND(T<=0|C=1)`, 0x79, R268 -/
  | condLeC1
  -- Group 10, direct jumps and calls (R90)
  /-- `JMP8`, 0x0A, R278 -/
  | jmp8 (imm : BitVec 8)
  /-- `CALL8`, 0x1A, R279 -/
  | call8 (imm : BitVec 8)
  /-- `JMP16`, 0x2A, R280 -/
  | jmp16 (imm : BitVec 16)
  /-- `CALL16`, 0x3A, R281 -/
  | call16 (imm : BitVec 16)
  /-- `JMP32`, 0x4A, R282 -/
  | jmp32 (imm : BitVec 32)
  /-- `CALL32`, 0x5A, R283 -/
  | call32 (imm : BitVec 32)
  /-- `JMP64`, 0x6A, R284 -/
  | jmp64 (imm : BitVec 64)
  /-- `CALL64`, 0x7A, R285 -/
  | call64 (imm : BitVec 64)
  -- Group 11, shifts, rotations and PERMUTE (R91)
  /-- `LSL`, 0x0B, R293 -/
  | lsl
  /-- `LSR`, 0x1B, R294 -/
  | lsr
  /-- `ASR`, 0x2B, R295 -/
  | asr
  /-- `PERMUTE`, 0x3B, R296 -/
  | permute
  /-- `RL`, 0x4B, R297 -/
  | rl
  /-- `RLC`, 0x5B, R298 -/
  | rlc
  /-- `RR`, 0x6B, R299 -/
  | rr
  /-- `RRC`, 0x7B, R300 -/
  | rrc
  -- Group 12, PC-relative effective addresses (R92)
  /-- `PEAR8`, 0x0C, R311 -/
  | pear8 (imm : BitVec 8)
  /-- `PEAD8`, 0x1C, R312 -/
  | pead8 (imm : BitVec 8)
  /-- `PEAR16`, 0x2C, R313 -/
  | pear16 (imm : BitVec 16)
  /-- `PEAD16`, 0x3C, R314 -/
  | pead16 (imm : BitVec 16)
  /-- `PEAR32`, 0x4C, R315 -/
  | pear32 (imm : BitVec 32)
  /-- `PEAD32`, 0x5C, R316 -/
  | pead32 (imm : BitVec 32)
  /-- `PEAR64`, 0x6C, R317 -/
  | pear64 (imm : BitVec 64)
  /-- `PEAD64`, 0x7C, R318 -/
  | pead64 (imm : BitVec 64)
  -- Group 13, stores (R93)
  /-- `ST8`, 0x0D, R327 -/
  | st8
  /-- `ST16`, 0x2D, R328 -/
  | st16
  /-- `ST32`, 0x4D, R329 -/
  | st32
  /-- `ST64`, 0x6D, R330 -/
  | st64
  -- Group 14, loads (R94)
  /-- `ULD8`, 0x0E, R336 -/
  | uld8
  /-- `SLD8`, 0x1E, R337 -/
  | sld8
  /-- `ULD16`, 0x2E, R338 -/
  | uld16
  /-- `SLD16`, 0x3E, R339 -/
  | sld16
  /-- `ULD32`, 0x4E, R340 -/
  | uld32
  /-- `SLD32`, 0x5E, R341 -/
  | sld32
  /-- `ULD64`, 0x6E, R342 -/
  | uld64
  /-- `SLD64`, 0x7E, R343 -/
  | sld64
  -- The 74 listed illegal opcodes (R96)
  /-- `ILLEGAL_0F`, 0x0F, R96 -/
  | illegal0F
  /-- `ILLEGAL_1D`, 0x1D, R96 -/
  | illegal1D
  /-- `ILLEGAL_1F`, 0x1F, R96 -/
  | illegal1F
  /-- `ILLEGAL_2F`, 0x2F, R96 -/
  | illegal2F
  /-- `ILLEGAL_3D`, 0x3D, R96 -/
  | illegal3D
  /-- `ILLEGAL_3F`, 0x3F, R96 -/
  | illegal3F
  /-- `ILLEGAL_44`, 0x44, R96 -/
  | illegal44
  /-- `ILLEGAL_45`, 0x45, R96 -/
  | illegal45
  /-- `ILLEGAL_4F`, 0x4F, R96 -/
  | illegal4F
  /-- `ILLEGAL_54`, 0x54, R96 -/
  | illegal54
  /-- `ILLEGAL_55`, 0x55, R96 -/
  | illegal55
  /-- `ILLEGAL_5D`, 0x5D, R96 -/
  | illegal5D
  /-- `ILLEGAL_5F`, 0x5F, R96 -/
  | illegal5F
  /-- `ILLEGAL_64`, 0x64, R96 -/
  | illegal64
  /-- `ILLEGAL_65`, 0x65, R96 -/
  | illegal65
  /-- `ILLEGAL_6F`, 0x6F, R96 -/
  | illegal6F
  /-- `ILLEGAL_74`, 0x74, R96 -/
  | illegal74
  /-- `ILLEGAL_75`, 0x75, R96 -/
  | illegal75
  /-- `ILLEGAL_7D`, 0x7D, R96 -/
  | illegal7D
  /-- `ILLEGAL_7F`, 0x7F, R96 -/
  | illegal7F
  /-- `ILLEGAL_84`, 0x84, R96 -/
  | illegal84
  /-- `ILLEGAL_85`, 0x85, R96 -/
  | illegal85
  /-- `ILLEGAL_86`, 0x86, R96 -/
  | illegal86
  /-- `ILLEGAL_87`, 0x87, R96 -/
  | illegal87
  /-- `ILLEGAL_8B`, 0x8B, R96 -/
  | illegal8B
  /-- `ILLEGAL_8F`, 0x8F, R96 -/
  | illegal8F
  /-- `ILLEGAL_94`, 0x94, R96 -/
  | illegal94
  /-- `ILLEGAL_95`, 0x95, R96 -/
  | illegal95
  /-- `ILLEGAL_96`, 0x96, R96 -/
  | illegal96
  /-- `ILLEGAL_97`, 0x97, R96 -/
  | illegal97
  /-- `ILLEGAL_9B`, 0x9B, R96 -/
  | illegal9B
  /-- `ILLEGAL_9D`, 0x9D, R96 -/
  | illegal9D
  /-- `ILLEGAL_9F`, 0x9F, R96 -/
  | illegal9F
  /-- `ILLEGAL_A4`, 0xA4, R96 -/
  | illegalA4
  /-- `ILLEGAL_A5`, 0xA5, R96 -/
  | illegalA5
  /-- `ILLEGAL_A6`, 0xA6, R96 -/
  | illegalA6
  /-- `ILLEGAL_A7`, 0xA7, R96 -/
  | illegalA7
  /-- `ILLEGAL_AB`, 0xAB, R96 -/
  | illegalAB
  /-- `ILLEGAL_AF`, 0xAF, R96 -/
  | illegalAF
  /-- `ILLEGAL_B4`, 0xB4, R96 -/
  | illegalB4
  /-- `ILLEGAL_B5`, 0xB5, R96 -/
  | illegalB5
  /-- `ILLEGAL_B6`, 0xB6, R96 -/
  | illegalB6
  /-- `ILLEGAL_B7`, 0xB7, R96 -/
  | illegalB7
  /-- `ILLEGAL_BB`, 0xBB, R96 -/
  | illegalBB
  /-- `ILLEGAL_BD`, 0xBD, R96 -/
  | illegalBD
  /-- `ILLEGAL_BF`, 0xBF, R96 -/
  | illegalBF
  /-- `ILLEGAL_C4`, 0xC4, R96 -/
  | illegalC4
  /-- `ILLEGAL_C5`, 0xC5, R96 -/
  | illegalC5
  /-- `ILLEGAL_C6`, 0xC6, R96 -/
  | illegalC6
  /-- `ILLEGAL_C7`, 0xC7, R96 -/
  | illegalC7
  /-- `ILLEGAL_CB`, 0xCB, R96 -/
  | illegalCB
  /-- `ILLEGAL_CF`, 0xCF, R96 -/
  | illegalCF
  /-- `ILLEGAL_D4`, 0xD4, R96 -/
  | illegalD4
  /-- `ILLEGAL_D5`, 0xD5, R96 -/
  | illegalD5
  /-- `ILLEGAL_D6`, 0xD6, R96 -/
  | illegalD6
  /-- `ILLEGAL_D7`, 0xD7, R96 -/
  | illegalD7
  /-- `ILLEGAL_DB`, 0xDB, R96 -/
  | illegalDB
  /-- `ILLEGAL_DD`, 0xDD, R96 -/
  | illegalDD
  /-- `ILLEGAL_DF`, 0xDF, R96 -/
  | illegalDF
  /-- `ILLEGAL_E0`, 0xE0, R96 -/
  | illegalE0
  /-- `ILLEGAL_E4`, 0xE4, R96 -/
  | illegalE4
  /-- `ILLEGAL_E5`, 0xE5, R96 -/
  | illegalE5
  /-- `ILLEGAL_E6`, 0xE6, R96 -/
  | illegalE6
  /-- `ILLEGAL_E7`, 0xE7, R96 -/
  | illegalE7
  /-- `ILLEGAL_EB`, 0xEB, R96 -/
  | illegalEB
  /-- `ILLEGAL_EF`, 0xEF, R96 -/
  | illegalEF
  /-- `ILLEGAL_F0`, 0xF0, R96 -/
  | illegalF0
  /-- `ILLEGAL_F4`, 0xF4, R96 -/
  | illegalF4
  /-- `ILLEGAL_F5`, 0xF5, R96 -/
  | illegalF5
  /-- `ILLEGAL_F6`, 0xF6, R96 -/
  | illegalF6
  /-- `ILLEGAL_F7`, 0xF7, R96 -/
  | illegalF7
  /-- `ILLEGAL_FB`, 0xFB, R96 -/
  | illegalFB
  /-- `ILLEGAL_FD`, 0xFD, R96 -/
  | illegalFD
  /-- `ILLEGAL_FF`, 0xFF, R96 -/
  | illegalFF
  -- The 52 unassigned opcodes (R97)
  /-- `UNASSIGNED_81`, 0x81, R97 -/
  | unassigned81
  /-- `UNASSIGNED_88`, 0x88, R97 -/
  | unassigned88
  /-- `UNASSIGNED_89`, 0x89, R97 -/
  | unassigned89
  /-- `UNASSIGNED_8A`, 0x8A, R97 -/
  | unassigned8A
  /-- `UNASSIGNED_8C`, 0x8C, R97 -/
  | unassigned8C
  /-- `UNASSIGNED_8D`, 0x8D, R97 -/
  | unassigned8D
  /-- `UNASSIGNED_8E`, 0x8E, R97 -/
  | unassigned8E
  /-- `UNASSIGNED_91`, 0x91, R97 -/
  | unassigned91
  /-- `UNASSIGNED_98`, 0x98, R97 -/
  | unassigned98
  /-- `UNASSIGNED_99`, 0x99, R97 -/
  | unassigned99
  /-- `UNASSIGNED_9A`, 0x9A, R97 -/
  | unassigned9A
  /-- `UNASSIGNED_9C`, 0x9C, R97 -/
  | unassigned9C
  /-- `UNASSIGNED_9E`, 0x9E, R97 -/
  | unassigned9E
  /-- `UNASSIGNED_A1`, 0xA1, R97 -/
  | unassignedA1
  /-- `UNASSIGNED_A8`, 0xA8, R97 -/
  | unassignedA8
  /-- `UNASSIGNED_A9`, 0xA9, R97 -/
  | unassignedA9
  /-- `UNASSIGNED_AA`, 0xAA, R97 -/
  | unassignedAA
  /-- `UNASSIGNED_AC`, 0xAC, R97 -/
  | unassignedAC
  /-- `UNASSIGNED_AD`, 0xAD, R97 -/
  | unassignedAD
  /-- `UNASSIGNED_AE`, 0xAE, R97 -/
  | unassignedAE
  /-- `UNASSIGNED_B1`, 0xB1, R97 -/
  | unassignedB1
  /-- `UNASSIGNED_B8`, 0xB8, R97 -/
  | unassignedB8
  /-- `UNASSIGNED_B9`, 0xB9, R97 -/
  | unassignedB9
  /-- `UNASSIGNED_BA`, 0xBA, R97 -/
  | unassignedBA
  /-- `UNASSIGNED_BC`, 0xBC, R97 -/
  | unassignedBC
  /-- `UNASSIGNED_BE`, 0xBE, R97 -/
  | unassignedBE
  /-- `UNASSIGNED_C1`, 0xC1, R97 -/
  | unassignedC1
  /-- `UNASSIGNED_C8`, 0xC8, R97 -/
  | unassignedC8
  /-- `UNASSIGNED_C9`, 0xC9, R97 -/
  | unassignedC9
  /-- `UNASSIGNED_CA`, 0xCA, R97 -/
  | unassignedCA
  /-- `UNASSIGNED_CC`, 0xCC, R97 -/
  | unassignedCC
  /-- `UNASSIGNED_CD`, 0xCD, R97 -/
  | unassignedCD
  /-- `UNASSIGNED_CE`, 0xCE, R97 -/
  | unassignedCE
  /-- `UNASSIGNED_D1`, 0xD1, R97 -/
  | unassignedD1
  /-- `UNASSIGNED_D8`, 0xD8, R97 -/
  | unassignedD8
  /-- `UNASSIGNED_D9`, 0xD9, R97 -/
  | unassignedD9
  /-- `UNASSIGNED_DA`, 0xDA, R97 -/
  | unassignedDA
  /-- `UNASSIGNED_DC`, 0xDC, R97 -/
  | unassignedDC
  /-- `UNASSIGNED_DE`, 0xDE, R97 -/
  | unassignedDE
  /-- `UNASSIGNED_E1`, 0xE1, R97 -/
  | unassignedE1
  /-- `UNASSIGNED_E8`, 0xE8, R97 -/
  | unassignedE8
  /-- `UNASSIGNED_E9`, 0xE9, R97 -/
  | unassignedE9
  /-- `UNASSIGNED_EA`, 0xEA, R97 -/
  | unassignedEA
  /-- `UNASSIGNED_EC`, 0xEC, R97 -/
  | unassignedEC
  /-- `UNASSIGNED_ED`, 0xED, R97 -/
  | unassignedED
  /-- `UNASSIGNED_EE`, 0xEE, R97 -/
  | unassignedEE
  /-- `UNASSIGNED_F1`, 0xF1, R97 -/
  | unassignedF1
  /-- `UNASSIGNED_F8`, 0xF8, R97 -/
  | unassignedF8
  /-- `UNASSIGNED_F9`, 0xF9, R97 -/
  | unassignedF9
  /-- `UNASSIGNED_FA`, 0xFA, R97 -/
  | unassignedFA
  /-- `UNASSIGNED_FC`, 0xFC, R97 -/
  | unassignedFC
  /-- `UNASSIGNED_FE`, 0xFE, R97 -/
  | unassignedFE
  deriving DecidableEq, Repr, Inhabited

end Sys2Proof
end

