-- ==== Sys2Proof/WellFormed.lean ====
section
/-! DEFINITION. Which terms of `Instr` are instructions. The immediates are right by their type, so
the one thing to check is the opcode: a row of class `listed_illegal` (30_encoding.md R96) or
`unassigned_not_listed` (R97) is a row of the table and not an instruction of the machine. -/

namespace Sys2Proof

/-- The three classes of the opcode table (R98). -/
inductive OpcodeClass where
  /-- one of the 130 instructions -/
  | defined
  /-- one of the 74 opcodes of R96 -/
  | listedIllegal
  /-- one of the 52 opcodes of R97 -/
  | unassigned
  deriving DecidableEq, Repr

/-- The class of a row (the map of R99). -/
def Instr.opcodeClass : Instr → OpcodeClass
  | .brk => .defined
  | .sc => .defined
  | .pop => .defined
  | .push => .defined
  | .jmpdi => .defined
  | .calldi => .defined
  | .ret => .defined
  | .switch => .defined
  | .crStore => .defined
  | .crFetch => .defined
  | .di => .defined
  | .ei => .defined
  | .sec => .defined
  | .rFetch => .defined
  | .ulit8 _ => .defined
  | .slit8 _ => .defined
  | .ulit16 _ => .defined
  | .slit16 _ => .defined
  | .ulit32 _ => .defined
  | .slit32 _ => .defined
  | .ulit64 _ => .defined
  | .slit64 _ => .defined
  | .zero2 => .defined
  | .twodropZero => .defined
  | .twodupAnd => .defined
  | .and => .defined
  | .twodupBic => .defined
  | .bic => .defined
  | .over2 => .defined
  | .drop => .defined
  | .twodupSwapBic => .defined
  | .swapBic => .defined
  | .dup2 => .defined
  | .nip => .defined
  | .twodupXor => .defined
  | .xor => .defined
  | .twodupOr => .defined
  | .or => .defined
  | .twodupNor => .defined
  | .nor => .defined
  | .twodupXnor => .defined
  | .xnor => .defined
  | .dupInvert2 => .defined
  | .invertNip => .defined
  | .twodupInvertOr => .defined
  | .invertOr => .defined
  | .overInvert => .defined
  | .dropInvert => .defined
  | .twodupSwapInvertOr => .defined
  | .swapInvertOr => .defined
  | .twodupNand => .defined
  | .nand => .defined
  | .negOne2 => .defined
  | .twodropNegOne => .defined
  | .zero1 => .defined
  | .dropZero => .defined
  | .dup1 => .defined
  | .nop => .defined
  | .dupInvert1 => .defined
  | .invert => .defined
  | .negOne1 => .defined
  | .dropNegOne => .defined
  | .twodupAdd => .defined
  | .add => .defined
  | .twodupAddPlus1 => .defined
  | .addPlus1 => .defined
  | .twodupAdc => .defined
  | .adc => .defined
  | .twodupAdcMinus1 => .defined
  | .adcMinus1 => .defined
  | .twodupSubMinus1 => .defined
  | .subMinus1 => .defined
  | .twodupSub => .defined
  | .sub => .defined
  | .twodupSbc => .defined
  | .sbc => .defined
  | .twodupSbcMinus1 => .defined
  | .sbcMinus1 => .defined
  | .condAlways => .defined
  | .condNever => .defined
  | .condC0 => .defined
  | .condC1 => .defined
  | .condNz => .defined
  | .condZ => .defined
  | .condNzC0 => .defined
  | .condZC1 => .defined
  | .condGe => .defined
  | .condLt => .defined
  | .condGeC0 => .defined
  | .condLtC1 => .defined
  | .condGt => .defined
  | .condLe => .defined
  | .condGtC0 => .defined
  | .condLeC1 => .defined
  | .jmp8 _ => .defined
  | .call8 _ => .defined
  | .jmp16 _ => .defined
  | .call16 _ => .defined
  | .jmp32 _ => .defined
  | .call32 _ => .defined
  | .jmp64 _ => .defined
  | .call64 _ => .defined
  | .lsl => .defined
  | .lsr => .defined
  | .asr => .defined
  | .permute => .defined
  | .rl => .defined
  | .rlc => .defined
  | .rr => .defined
  | .rrc => .defined
  | .pear8 _ => .defined
  | .pead8 _ => .defined
  | .pear16 _ => .defined
  | .pead16 _ => .defined
  | .pear32 _ => .defined
  | .pead32 _ => .defined
  | .pear64 _ => .defined
  | .pead64 _ => .defined
  | .st8 => .defined
  | .st16 => .defined
  | .st32 => .defined
  | .st64 => .defined
  | .uld8 => .defined
  | .sld8 => .defined
  | .uld16 => .defined
  | .sld16 => .defined
  | .uld32 => .defined
  | .sld32 => .defined
  | .uld64 => .defined
  | .sld64 => .defined
  | .illegal0F => .listedIllegal
  | .illegal1D => .listedIllegal
  | .illegal1F => .listedIllegal
  | .illegal2F => .listedIllegal
  | .illegal3D => .listedIllegal
  | .illegal3F => .listedIllegal
  | .illegal44 => .listedIllegal
  | .illegal45 => .listedIllegal
  | .illegal4F => .listedIllegal
  | .illegal54 => .listedIllegal
  | .illegal55 => .listedIllegal
  | .illegal5D => .listedIllegal
  | .illegal5F => .listedIllegal
  | .illegal64 => .listedIllegal
  | .illegal65 => .listedIllegal
  | .illegal6F => .listedIllegal
  | .illegal74 => .listedIllegal
  | .illegal75 => .listedIllegal
  | .illegal7D => .listedIllegal
  | .illegal7F => .listedIllegal
  | .illegal84 => .listedIllegal
  | .illegal85 => .listedIllegal
  | .illegal86 => .listedIllegal
  | .illegal87 => .listedIllegal
  | .illegal8B => .listedIllegal
  | .illegal8F => .listedIllegal
  | .illegal94 => .listedIllegal
  | .illegal95 => .listedIllegal
  | .illegal96 => .listedIllegal
  | .illegal97 => .listedIllegal
  | .illegal9B => .listedIllegal
  | .illegal9D => .listedIllegal
  | .illegal9F => .listedIllegal
  | .illegalA4 => .listedIllegal
  | .illegalA5 => .listedIllegal
  | .illegalA6 => .listedIllegal
  | .illegalA7 => .listedIllegal
  | .illegalAB => .listedIllegal
  | .illegalAF => .listedIllegal
  | .illegalB4 => .listedIllegal
  | .illegalB5 => .listedIllegal
  | .illegalB6 => .listedIllegal
  | .illegalB7 => .listedIllegal
  | .illegalBB => .listedIllegal
  | .illegalBD => .listedIllegal
  | .illegalBF => .listedIllegal
  | .illegalC4 => .listedIllegal
  | .illegalC5 => .listedIllegal
  | .illegalC6 => .listedIllegal
  | .illegalC7 => .listedIllegal
  | .illegalCB => .listedIllegal
  | .illegalCF => .listedIllegal
  | .illegalD4 => .listedIllegal
  | .illegalD5 => .listedIllegal
  | .illegalD6 => .listedIllegal
  | .illegalD7 => .listedIllegal
  | .illegalDB => .listedIllegal
  | .illegalDD => .listedIllegal
  | .illegalDF => .listedIllegal
  | .illegalE0 => .listedIllegal
  | .illegalE4 => .listedIllegal
  | .illegalE5 => .listedIllegal
  | .illegalE6 => .listedIllegal
  | .illegalE7 => .listedIllegal
  | .illegalEB => .listedIllegal
  | .illegalEF => .listedIllegal
  | .illegalF0 => .listedIllegal
  | .illegalF4 => .listedIllegal
  | .illegalF5 => .listedIllegal
  | .illegalF6 => .listedIllegal
  | .illegalF7 => .listedIllegal
  | .illegalFB => .listedIllegal
  | .illegalFD => .listedIllegal
  | .illegalFF => .listedIllegal
  | .unassigned81 => .unassigned
  | .unassigned88 => .unassigned
  | .unassigned89 => .unassigned
  | .unassigned8A => .unassigned
  | .unassigned8C => .unassigned
  | .unassigned8D => .unassigned
  | .unassigned8E => .unassigned
  | .unassigned91 => .unassigned
  | .unassigned98 => .unassigned
  | .unassigned99 => .unassigned
  | .unassigned9A => .unassigned
  | .unassigned9C => .unassigned
  | .unassigned9E => .unassigned
  | .unassignedA1 => .unassigned
  | .unassignedA8 => .unassigned
  | .unassignedA9 => .unassigned
  | .unassignedAA => .unassigned
  | .unassignedAC => .unassigned
  | .unassignedAD => .unassigned
  | .unassignedAE => .unassigned
  | .unassignedB1 => .unassigned
  | .unassignedB8 => .unassigned
  | .unassignedB9 => .unassigned
  | .unassignedBA => .unassigned
  | .unassignedBC => .unassigned
  | .unassignedBE => .unassigned
  | .unassignedC1 => .unassigned
  | .unassignedC8 => .unassigned
  | .unassignedC9 => .unassigned
  | .unassignedCA => .unassigned
  | .unassignedCC => .unassigned
  | .unassignedCD => .unassigned
  | .unassignedCE => .unassigned
  | .unassignedD1 => .unassigned
  | .unassignedD8 => .unassigned
  | .unassignedD9 => .unassigned
  | .unassignedDA => .unassigned
  | .unassignedDC => .unassigned
  | .unassignedDE => .unassigned
  | .unassignedE1 => .unassigned
  | .unassignedE8 => .unassigned
  | .unassignedE9 => .unassigned
  | .unassignedEA => .unassigned
  | .unassignedEC => .unassigned
  | .unassignedED => .unassigned
  | .unassignedEE => .unassigned
  | .unassignedF1 => .unassigned
  | .unassignedF8 => .unassigned
  | .unassignedF9 => .unassigned
  | .unassignedFA => .unassigned
  | .unassignedFC => .unassigned
  | .unassignedFE => .unassigned

/-- The first check: the opcode is not in the source's illegal list (R96). -/
def Instr.notListedIllegal (i : Instr) : Bool := i.opcodeClass != .listedIllegal

/-- The second check: the opcode is not one of the unassigned ones (R97). -/
def Instr.notUnassigned (i : Instr) : Bool := i.opcodeClass != .unassigned

/-- A well-formed instruction: one of the 130 defined opcodes. -/
def Instr.wellFormed (i : Instr) : Bool := i.notListedIllegal && i.notUnassigned

end Sys2Proof
end

