-- ==== Sys2Proof/Decode.lean ====
section
/-! DEFINITION. The decoder and the encoder of ISA/NG (30_encoding.md), and the byte-order helpers
they and the memory use. The decoder is written from the opcode map of R99 (group = low nibble,
row = high nibble); the encoder from the bit patterns of R82 to R97. -/

namespace Sys2Proof

/-- Assemble bytes little-endian: the byte at the lowest address is the least significant
(20_memory.md R53, R55; decision D2). -/
def leNat : List Byte → Nat
  | [] => 0
  | b :: bs => b.toNat + 256 * leNat bs

/-- The `n` low bytes of `v`, the least significant first (R54). -/
def leBytes : Nat → Nat → List Byte
  | 0, _ => []
  | n + 1, v => BitVec.ofNat 8 v :: leBytes n (v / 256)

/-- The number of bytes a size field `sss` selects: 2^sss for 000 to 011; the encodings with
`sss = 1xx` have no immediate because they are no instructions (R84, R97). -/
def sizeBytes (sss : Nat) : Nat :=
  match sss with
  | 0 => 1
  | 1 => 2
  | 2 => 4
  | 3 => 8
  | _ => 0

/-- The number of immediate bytes that follow an opcode: formats LIT, BRANCH and PEA (groups 1, 10
and 12) carry `2^sss` bytes, every other opcode none (R80, R84). -/
def immBytes (op : Byte) : Nat :=
  match op.toNat % 16 with
  | 1 => sizeBytes (op.toNat / 32)
  | 10 => sizeBytes (op.toNat / 32)
  | 12 => sizeBytes (op.toNat / 32)
  | _ => 0

/-- Column 0 of the opcode map: group 0, miscellaneous (R81, R99). -/
def decodeGroup0 (row : Nat) : Instr :=
  match row with
  | 0 => .brk
  | 1 => .sc
  | 2 => .pop
  | 3 => .push
  | 4 => .jmpdi
  | 5 => .calldi
  | 6 => .ret
  | 7 => .switch
  | 8 => .crStore
  | 9 => .crFetch
  | 10 => .di
  | 11 => .ei
  | 12 => .sec
  | 13 => .rFetch
  | 14 => .illegalE0
  | _ => .illegalF0

/-- Column 1 of the opcode map: group 1, literals (R81, R99). -/
def decodeGroup1 (row : Nat) (imm : Nat) : Instr :=
  match row with
  | 0 => .ulit8 (BitVec.ofNat 8 imm)
  | 1 => .slit8 (BitVec.ofNat 8 imm)
  | 2 => .ulit16 (BitVec.ofNat 16 imm)
  | 3 => .slit16 (BitVec.ofNat 16 imm)
  | 4 => .ulit32 (BitVec.ofNat 32 imm)
  | 5 => .slit32 (BitVec.ofNat 32 imm)
  | 6 => .ulit64 (BitVec.ofNat 64 imm)
  | 7 => .slit64 (BitVec.ofNat 64 imm)
  | 8 => .unassigned81
  | 9 => .unassigned91
  | 10 => .unassignedA1
  | 11 => .unassignedB1
  | 12 => .unassignedC1
  | 13 => .unassignedD1
  | 14 => .unassignedE1
  | _ => .unassignedF1

/-- Column 2 of the opcode map: group 2, BOOL2 keeping its inputs (R81, R99). -/
def decodeGroup2 (row : Nat) : Instr :=
  match row with
  | 0 => .zero2
  | 1 => .twodupAnd
  | 2 => .twodupBic
  | 3 => .over2
  | 4 => .twodupSwapBic
  | 5 => .dup2
  | 6 => .twodupXor
  | 7 => .twodupOr
  | 8 => .twodupNor
  | 9 => .twodupXnor
  | 10 => .dupInvert2
  | 11 => .twodupInvertOr
  | 12 => .overInvert
  | 13 => .twodupSwapInvertOr
  | 14 => .twodupNand
  | _ => .negOne2

/-- Column 3 of the opcode map: group 3, BOOL2 popping its inputs (R81, R99). -/
def decodeGroup3 (row : Nat) : Instr :=
  match row with
  | 0 => .twodropZero
  | 1 => .and
  | 2 => .bic
  | 3 => .drop
  | 4 => .swapBic
  | 5 => .nip
  | 6 => .xor
  | 7 => .or
  | 8 => .nor
  | 9 => .xnor
  | 10 => .invertNip
  | 11 => .invertOr
  | 12 => .dropInvert
  | 13 => .swapInvertOr
  | 14 => .nand
  | _ => .twodropNegOne

/-- Column 4 of the opcode map: group 4, BOOL1 keeping its input (R81, R99). -/
def decodeGroup4 (row : Nat) : Instr :=
  match row with
  | 0 => .zero1
  | 1 => .dup1
  | 2 => .dupInvert1
  | 3 => .negOne1
  | 4 => .illegal44
  | 5 => .illegal54
  | 6 => .illegal64
  | 7 => .illegal74
  | 8 => .illegal84
  | 9 => .illegal94
  | 10 => .illegalA4
  | 11 => .illegalB4
  | 12 => .illegalC4
  | 13 => .illegalD4
  | 14 => .illegalE4
  | _ => .illegalF4

/-- Column 5 of the opcode map: group 5, BOOL1 popping its input (R81, R99). -/
def decodeGroup5 (row : Nat) : Instr :=
  match row with
  | 0 => .dropZero
  | 1 => .nop
  | 2 => .invert
  | 3 => .dropNegOne
  | 4 => .illegal45
  | 5 => .illegal55
  | 6 => .illegal65
  | 7 => .illegal75
  | 8 => .illegal85
  | 9 => .illegal95
  | 10 => .illegalA5
  | 11 => .illegalB5
  | 12 => .illegalC5
  | 13 => .illegalD5
  | 14 => .illegalE5
  | _ => .illegalF5

/-- Column 6 of the opcode map: group 6, ADDSUB2 keeping its inputs (R81, R99). -/
def decodeGroup6 (row : Nat) : Instr :=
  match row with
  | 0 => .twodupAdd
  | 1 => .twodupAddPlus1
  | 2 => .twodupAdc
  | 3 => .twodupAdcMinus1
  | 4 => .twodupSubMinus1
  | 5 => .twodupSub
  | 6 => .twodupSbc
  | 7 => .twodupSbcMinus1
  | 8 => .illegal86
  | 9 => .illegal96
  | 10 => .illegalA6
  | 11 => .illegalB6
  | 12 => .illegalC6
  | 13 => .illegalD6
  | 14 => .illegalE6
  | _ => .illegalF6

/-- Column 7 of the opcode map: group 7, ADDSUB2 popping its inputs (R81, R99). -/
def decodeGroup7 (row : Nat) : Instr :=
  match row with
  | 0 => .add
  | 1 => .addPlus1
  | 2 => .adc
  | 3 => .adcMinus1
  | 4 => .subMinus1
  | 5 => .sub
  | 6 => .sbc
  | 7 => .sbcMinus1
  | 8 => .illegal87
  | 9 => .illegal97
  | 10 => .illegalA7
  | 11 => .illegalB7
  | 12 => .illegalC7
  | 13 => .illegalD7
  | 14 => .illegalE7
  | _ => .illegalF7

/-- Column 8 of the opcode map: group 8, COND with y = 0 (R81, R99). -/
def decodeGroup8 (row : Nat) : Instr :=
  match row with
  | 0 => .condAlways
  | 1 => .condC0
  | 2 => .condNz
  | 3 => .condNzC0
  | 4 => .condGe
  | 5 => .condGeC0
  | 6 => .condGt
  | 7 => .condGtC0
  | 8 => .unassigned88
  | 9 => .unassigned98
  | 10 => .unassignedA8
  | 11 => .unassignedB8
  | 12 => .unassignedC8
  | 13 => .unassignedD8
  | 14 => .unassignedE8
  | _ => .unassignedF8

/-- Column 9 of the opcode map: group 9, COND with y = 1 (R81, R99). -/
def decodeGroup9 (row : Nat) : Instr :=
  match row with
  | 0 => .condNever
  | 1 => .condC1
  | 2 => .condZ
  | 3 => .condZC1
  | 4 => .condLt
  | 5 => .condLtC1
  | 6 => .condLe
  | 7 => .condLeC1
  | 8 => .unassigned89
  | 9 => .unassigned99
  | 10 => .unassignedA9
  | 11 => .unassignedB9
  | 12 => .unassignedC9
  | 13 => .unassignedD9
  | 14 => .unassignedE9
  | _ => .unassignedF9

/-- Column A of the opcode map: group 10, direct jumps and calls (R81, R99). -/
def decodeGroup10 (row : Nat) (imm : Nat) : Instr :=
  match row with
  | 0 => .jmp8 (BitVec.ofNat 8 imm)
  | 1 => .call8 (BitVec.ofNat 8 imm)
  | 2 => .jmp16 (BitVec.ofNat 16 imm)
  | 3 => .call16 (BitVec.ofNat 16 imm)
  | 4 => .jmp32 (BitVec.ofNat 32 imm)
  | 5 => .call32 (BitVec.ofNat 32 imm)
  | 6 => .jmp64 (BitVec.ofNat 64 imm)
  | 7 => .call64 (BitVec.ofNat 64 imm)
  | 8 => .unassigned8A
  | 9 => .unassigned9A
  | 10 => .unassignedAA
  | 11 => .unassignedBA
  | 12 => .unassignedCA
  | 13 => .unassignedDA
  | 14 => .unassignedEA
  | _ => .unassignedFA

/-- Column B of the opcode map: group 11, shifts and rotations (R81, R99). -/
def decodeGroup11 (row : Nat) : Instr :=
  match row with
  | 0 => .lsl
  | 1 => .lsr
  | 2 => .asr
  | 3 => .permute
  | 4 => .rl
  | 5 => .rlc
  | 6 => .rr
  | 7 => .rrc
  | 8 => .illegal8B
  | 9 => .illegal9B
  | 10 => .illegalAB
  | 11 => .illegalBB
  | 12 => .illegalCB
  | 13 => .illegalDB
  | 14 => .illegalEB
  | _ => .illegalFB

/-- Column C of the opcode map: group 12, PC-relative addresses (R81, R99). -/
def decodeGroup12 (row : Nat) (imm : Nat) : Instr :=
  match row with
  | 0 => .pear8 (BitVec.ofNat 8 imm)
  | 1 => .pead8 (BitVec.ofNat 8 imm)
  | 2 => .pear16 (BitVec.ofNat 16 imm)
  | 3 => .pead16 (BitVec.ofNat 16 imm)
  | 4 => .pear32 (BitVec.ofNat 32 imm)
  | 5 => .pead32 (BitVec.ofNat 32 imm)
  | 6 => .pear64 (BitVec.ofNat 64 imm)
  | 7 => .pead64 (BitVec.ofNat 64 imm)
  | 8 => .unassigned8C
  | 9 => .unassigned9C
  | 10 => .unassignedAC
  | 11 => .unassignedBC
  | 12 => .unassignedCC
  | 13 => .unassignedDC
  | 14 => .unassignedEC
  | _ => .unassignedFC

/-- Column D of the opcode map: group 13, stores (R81, R99). -/
def decodeGroup13 (row : Nat) : Instr :=
  match row with
  | 0 => .st8
  | 1 => .illegal1D
  | 2 => .st16
  | 3 => .illegal3D
  | 4 => .st32
  | 5 => .illegal5D
  | 6 => .st64
  | 7 => .illegal7D
  | 8 => .unassigned8D
  | 9 => .illegal9D
  | 10 => .unassignedAD
  | 11 => .illegalBD
  | 12 => .unassignedCD
  | 13 => .illegalDD
  | 14 => .unassignedED
  | _ => .illegalFD

/-- Column E of the opcode map: group 14, loads (R81, R99). -/
def decodeGroup14 (row : Nat) : Instr :=
  match row with
  | 0 => .uld8
  | 1 => .sld8
  | 2 => .uld16
  | 3 => .sld16
  | 4 => .uld32
  | 5 => .sld32
  | 6 => .uld64
  | 7 => .sld64
  | 8 => .unassigned8E
  | 9 => .unassigned9E
  | 10 => .unassignedAE
  | 11 => .unassignedBE
  | 12 => .unassignedCE
  | 13 => .unassignedDE
  | 14 => .unassignedEE
  | _ => .unassignedFE

/-- Column F of the opcode map: group 15, wholly illegal (R81, R99). -/
def decodeGroup15 (row : Nat) : Instr :=
  match row with
  | 0 => .illegal0F
  | 1 => .illegal1F
  | 2 => .illegal2F
  | 3 => .illegal3F
  | 4 => .illegal4F
  | 5 => .illegal5F
  | 6 => .illegal6F
  | 7 => .illegal7F
  | 8 => .illegal8F
  | 9 => .illegal9F
  | 10 => .illegalAF
  | 11 => .illegalBF
  | 12 => .illegalCF
  | 13 => .illegalDF
  | 14 => .illegalEF
  | _ => .illegalFF

/-- The instruction of an opcode byte and its assembled immediate: primary decode on the low four
bits, then on the high four (R81). Total: all 256 opcode bytes are rows of the table. -/
def decodeParts (op : Byte) (imm : Nat) : Instr :=
  match op.toNat % 16 with
  | 0 => decodeGroup0 (op.toNat / 16)
  | 1 => decodeGroup1 (op.toNat / 16) imm
  | 2 => decodeGroup2 (op.toNat / 16)
  | 3 => decodeGroup3 (op.toNat / 16)
  | 4 => decodeGroup4 (op.toNat / 16)
  | 5 => decodeGroup5 (op.toNat / 16)
  | 6 => decodeGroup6 (op.toNat / 16)
  | 7 => decodeGroup7 (op.toNat / 16)
  | 8 => decodeGroup8 (op.toNat / 16)
  | 9 => decodeGroup9 (op.toNat / 16)
  | 10 => decodeGroup10 (op.toNat / 16) imm
  | 11 => decodeGroup11 (op.toNat / 16)
  | 12 => decodeGroup12 (op.toNat / 16) imm
  | 13 => decodeGroup13 (op.toNat / 16)
  | 14 => decodeGroup14 (op.toNat / 16)
  | _ => decodeGroup15 (op.toNat / 16)

/-- Why a run of bytes is not decoded. -/
inductive Reject where
  /-- there is no opcode byte -/
  | noOpcode
  /-- the bytes end before the immediate of this opcode does -/
  | truncatedImmediate (op : Byte)
  deriving DecidableEq, Repr

/-- Decode the instruction at the head of a run of bytes, and give the bytes after it (R80, R95). -/
def decode : List Byte → Except Reject (Instr × List Byte)
  | [] => .error .noOpcode
  | op :: rest =>
    if rest.length < immBytes op then .error (.truncatedImmediate op)
    else .ok (decodeParts op (leNat (rest.take (immBytes op))), rest.drop (immBytes op))

/-- The opcode byte of an instruction, from the bit patterns of R82 to R97, and the bytes of its
immediate in the order they follow the opcode (R95). -/
def Instr.layout : Instr → Byte × List Byte
  -- Group 0, miscellaneous (R83)
  | .brk => (0b00000000#8, [])
  | .sc => (0b00010000#8, [])
  | .pop => (0b00100000#8, [])
  | .push => (0b00110000#8, [])
  | .jmpdi => (0b01000000#8, [])
  | .calldi => (0b01010000#8, [])
  | .ret => (0b01100000#8, [])
  | .switch => (0b01110000#8, [])
  | .crStore => (0b10000000#8, [])
  | .crFetch => (0b10010000#8, [])
  | .di => (0b10100000#8, [])
  | .ei => (0b10110000#8, [])
  | .sec => (0b11000000#8, [])
  | .rFetch => (0b11010000#8, [])
  -- Group 1, literals (R85)
  | .ulit8 imm => (0b00000001#8, leBytes 1 imm.toNat)
  | .slit8 imm => (0b00010001#8, leBytes 1 imm.toNat)
  | .ulit16 imm => (0b00100001#8, leBytes 2 imm.toNat)
  | .slit16 imm => (0b00110001#8, leBytes 2 imm.toNat)
  | .ulit32 imm => (0b01000001#8, leBytes 4 imm.toNat)
  | .slit32 imm => (0b01010001#8, leBytes 4 imm.toNat)
  | .ulit64 imm => (0b01100001#8, leBytes 8 imm.toNat)
  | .slit64 imm => (0b01110001#8, leBytes 8 imm.toNat)
  -- Groups 2 and 3, BOOL2 (R86)
  | .zero2 => (0b00000010#8, [])
  | .twodropZero => (0b00000011#8, [])
  | .twodupAnd => (0b00010010#8, [])
  | .and => (0b00010011#8, [])
  | .twodupBic => (0b00100010#8, [])
  | .bic => (0b00100011#8, [])
  | .over2 => (0b00110010#8, [])
  | .drop => (0b00110011#8, [])
  | .twodupSwapBic => (0b01000010#8, [])
  | .swapBic => (0b01000011#8, [])
  | .dup2 => (0b01010010#8, [])
  | .nip => (0b01010011#8, [])
  | .twodupXor => (0b01100010#8, [])
  | .xor => (0b01100011#8, [])
  | .twodupOr => (0b01110010#8, [])
  | .or => (0b01110011#8, [])
  | .twodupNor => (0b10000010#8, [])
  | .nor => (0b10000011#8, [])
  | .twodupXnor => (0b10010010#8, [])
  | .xnor => (0b10010011#8, [])
  | .dupInvert2 => (0b10100010#8, [])
  | .invertNip => (0b10100011#8, [])
  | .twodupInvertOr => (0b10110010#8, [])
  | .invertOr => (0b10110011#8, [])
  | .overInvert => (0b11000010#8, [])
  | .dropInvert => (0b11000011#8, [])
  | .twodupSwapInvertOr => (0b11010010#8, [])
  | .swapInvertOr => (0b11010011#8, [])
  | .twodupNand => (0b11100010#8, [])
  | .nand => (0b11100011#8, [])
  | .negOne2 => (0b11110010#8, [])
  | .twodropNegOne => (0b11110011#8, [])
  -- Groups 4 and 5, BOOL1 (R87)
  | .zero1 => (0b00000100#8, [])
  | .dropZero => (0b00000101#8, [])
  | .dup1 => (0b00010100#8, [])
  | .nop => (0b00010101#8, [])
  | .dupInvert1 => (0b00100100#8, [])
  | .invert => (0b00100101#8, [])
  | .negOne1 => (0b00110100#8, [])
  | .dropNegOne => (0b00110101#8, [])
  -- Groups 6 and 7, ADDSUB2 (R88)
  | .twodupAdd => (0b00000110#8, [])
  | .add => (0b00000111#8, [])
  | .twodupAddPlus1 => (0b00010110#8, [])
  | .addPlus1 => (0b00010111#8, [])
  | .twodupAdc => (0b00100110#8, [])
  | .adc => (0b00100111#8, [])
  | .twodupAdcMinus1 => (0b00110110#8, [])
  | .adcMinus1 => (0b00110111#8, [])
  | .twodupSubMinus1 => (0b01000110#8, [])
  | .subMinus1 => (0b01000111#8, [])
  | .twodupSub => (0b01010110#8, [])
  | .sub => (0b01010111#8, [])
  | .twodupSbc => (0b01100110#8, [])
  | .sbc => (0b01100111#8, [])
  | .twodupSbcMinus1 => (0b01110110#8, [])
  | .sbcMinus1 => (0b01110111#8, [])
  -- Groups 8 and 9, COND (R89)
  | .condAlways => (0b00001000#8, [])
  | .condNever => (0b00001001#8, [])
  | .condC0 => (0b00011000#8, [])
  | .condC1 => (0b00011001#8, [])
  | .condNz => (0b00101000#8, [])
  | .condZ => (0b00101001#8, [])
  | .condNzC0 => (0b00111000#8, [])
  | .condZC1 => (0b00111001#8, [])
  | .condGe => (0b01001000#8, [])
  | .condLt => (0b01001001#8, [])
  | .condGeC0 => (0b01011000#8, [])
  | .condLtC1 => (0b01011001#8, [])
  | .condGt => (0b01101000#8, [])
  | .condLe => (0b01101001#8, [])
  | .condGtC0 => (0b01111000#8, [])
  | .condLeC1 => (0b01111001#8, [])
  -- Group 10, direct jumps and calls (R90)
  | .jmp8 imm => (0b00001010#8, leBytes 1 imm.toNat)
  | .call8 imm => (0b00011010#8, leBytes 1 imm.toNat)
  | .jmp16 imm => (0b00101010#8, leBytes 2 imm.toNat)
  | .call16 imm => (0b00111010#8, leBytes 2 imm.toNat)
  | .jmp32 imm => (0b01001010#8, leBytes 4 imm.toNat)
  | .call32 imm => (0b01011010#8, leBytes 4 imm.toNat)
  | .jmp64 imm => (0b01101010#8, leBytes 8 imm.toNat)
  | .call64 imm => (0b01111010#8, leBytes 8 imm.toNat)
  -- Group 11, shifts, rotations and PERMUTE (R91)
  | .lsl => (0b00001011#8, [])
  | .lsr => (0b00011011#8, [])
  | .asr => (0b00101011#8, [])
  | .permute => (0b00111011#8, [])
  | .rl => (0b01001011#8, [])
  | .rlc => (0b01011011#8, [])
  | .rr => (0b01101011#8, [])
  | .rrc => (0b01111011#8, [])
  -- Group 12, PC-relative effective addresses (R92)
  | .pear8 imm => (0b00001100#8, leBytes 1 imm.toNat)
  | .pead8 imm => (0b00011100#8, leBytes 1 imm.toNat)
  | .pear16 imm => (0b00101100#8, leBytes 2 imm.toNat)
  | .pead16 imm => (0b00111100#8, leBytes 2 imm.toNat)
  | .pear32 imm => (0b01001100#8, leBytes 4 imm.toNat)
  | .pead32 imm => (0b01011100#8, leBytes 4 imm.toNat)
  | .pear64 imm => (0b01101100#8, leBytes 8 imm.toNat)
  | .pead64 imm => (0b01111100#8, leBytes 8 imm.toNat)
  -- Group 13, stores (R93)
  | .st8 => (0b00001101#8, [])
  | .st16 => (0b00101101#8, [])
  | .st32 => (0b01001101#8, [])
  | .st64 => (0b01101101#8, [])
  -- Group 14, loads (R94)
  | .uld8 => (0b00001110#8, [])
  | .sld8 => (0b00011110#8, [])
  | .uld16 => (0b00101110#8, [])
  | .sld16 => (0b00111110#8, [])
  | .uld32 => (0b01001110#8, [])
  | .sld32 => (0b01011110#8, [])
  | .uld64 => (0b01101110#8, [])
  | .sld64 => (0b01111110#8, [])
  -- The 74 listed illegal opcodes (R96)
  | .illegal0F => (0b00001111#8, [])
  | .illegal1D => (0b00011101#8, [])
  | .illegal1F => (0b00011111#8, [])
  | .illegal2F => (0b00101111#8, [])
  | .illegal3D => (0b00111101#8, [])
  | .illegal3F => (0b00111111#8, [])
  | .illegal44 => (0b01000100#8, [])
  | .illegal45 => (0b01000101#8, [])
  | .illegal4F => (0b01001111#8, [])
  | .illegal54 => (0b01010100#8, [])
  | .illegal55 => (0b01010101#8, [])
  | .illegal5D => (0b01011101#8, [])
  | .illegal5F => (0b01011111#8, [])
  | .illegal64 => (0b01100100#8, [])
  | .illegal65 => (0b01100101#8, [])
  | .illegal6F => (0b01101111#8, [])
  | .illegal74 => (0b01110100#8, [])
  | .illegal75 => (0b01110101#8, [])
  | .illegal7D => (0b01111101#8, [])
  | .illegal7F => (0b01111111#8, [])
  | .illegal84 => (0b10000100#8, [])
  | .illegal85 => (0b10000101#8, [])
  | .illegal86 => (0b10000110#8, [])
  | .illegal87 => (0b10000111#8, [])
  | .illegal8B => (0b10001011#8, [])
  | .illegal8F => (0b10001111#8, [])
  | .illegal94 => (0b10010100#8, [])
  | .illegal95 => (0b10010101#8, [])
  | .illegal96 => (0b10010110#8, [])
  | .illegal97 => (0b10010111#8, [])
  | .illegal9B => (0b10011011#8, [])
  | .illegal9D => (0b10011101#8, [])
  | .illegal9F => (0b10011111#8, [])
  | .illegalA4 => (0b10100100#8, [])
  | .illegalA5 => (0b10100101#8, [])
  | .illegalA6 => (0b10100110#8, [])
  | .illegalA7 => (0b10100111#8, [])
  | .illegalAB => (0b10101011#8, [])
  | .illegalAF => (0b10101111#8, [])
  | .illegalB4 => (0b10110100#8, [])
  | .illegalB5 => (0b10110101#8, [])
  | .illegalB6 => (0b10110110#8, [])
  | .illegalB7 => (0b10110111#8, [])
  | .illegalBB => (0b10111011#8, [])
  | .illegalBD => (0b10111101#8, [])
  | .illegalBF => (0b10111111#8, [])
  | .illegalC4 => (0b11000100#8, [])
  | .illegalC5 => (0b11000101#8, [])
  | .illegalC6 => (0b11000110#8, [])
  | .illegalC7 => (0b11000111#8, [])
  | .illegalCB => (0b11001011#8, [])
  | .illegalCF => (0b11001111#8, [])
  | .illegalD4 => (0b11010100#8, [])
  | .illegalD5 => (0b11010101#8, [])
  | .illegalD6 => (0b11010110#8, [])
  | .illegalD7 => (0b11010111#8, [])
  | .illegalDB => (0b11011011#8, [])
  | .illegalDD => (0b11011101#8, [])
  | .illegalDF => (0b11011111#8, [])
  | .illegalE0 => (0b11100000#8, [])
  | .illegalE4 => (0b11100100#8, [])
  | .illegalE5 => (0b11100101#8, [])
  | .illegalE6 => (0b11100110#8, [])
  | .illegalE7 => (0b11100111#8, [])
  | .illegalEB => (0b11101011#8, [])
  | .illegalEF => (0b11101111#8, [])
  | .illegalF0 => (0b11110000#8, [])
  | .illegalF4 => (0b11110100#8, [])
  | .illegalF5 => (0b11110101#8, [])
  | .illegalF6 => (0b11110110#8, [])
  | .illegalF7 => (0b11110111#8, [])
  | .illegalFB => (0b11111011#8, [])
  | .illegalFD => (0b11111101#8, [])
  | .illegalFF => (0b11111111#8, [])
  -- The 52 unassigned opcodes (R97)
  | .unassigned81 => (0b10000001#8, [])
  | .unassigned88 => (0b10001000#8, [])
  | .unassigned89 => (0b10001001#8, [])
  | .unassigned8A => (0b10001010#8, [])
  | .unassigned8C => (0b10001100#8, [])
  | .unassigned8D => (0b10001101#8, [])
  | .unassigned8E => (0b10001110#8, [])
  | .unassigned91 => (0b10010001#8, [])
  | .unassigned98 => (0b10011000#8, [])
  | .unassigned99 => (0b10011001#8, [])
  | .unassigned9A => (0b10011010#8, [])
  | .unassigned9C => (0b10011100#8, [])
  | .unassigned9E => (0b10011110#8, [])
  | .unassignedA1 => (0b10100001#8, [])
  | .unassignedA8 => (0b10101000#8, [])
  | .unassignedA9 => (0b10101001#8, [])
  | .unassignedAA => (0b10101010#8, [])
  | .unassignedAC => (0b10101100#8, [])
  | .unassignedAD => (0b10101101#8, [])
  | .unassignedAE => (0b10101110#8, [])
  | .unassignedB1 => (0b10110001#8, [])
  | .unassignedB8 => (0b10111000#8, [])
  | .unassignedB9 => (0b10111001#8, [])
  | .unassignedBA => (0b10111010#8, [])
  | .unassignedBC => (0b10111100#8, [])
  | .unassignedBE => (0b10111110#8, [])
  | .unassignedC1 => (0b11000001#8, [])
  | .unassignedC8 => (0b11001000#8, [])
  | .unassignedC9 => (0b11001001#8, [])
  | .unassignedCA => (0b11001010#8, [])
  | .unassignedCC => (0b11001100#8, [])
  | .unassignedCD => (0b11001101#8, [])
  | .unassignedCE => (0b11001110#8, [])
  | .unassignedD1 => (0b11010001#8, [])
  | .unassignedD8 => (0b11011000#8, [])
  | .unassignedD9 => (0b11011001#8, [])
  | .unassignedDA => (0b11011010#8, [])
  | .unassignedDC => (0b11011100#8, [])
  | .unassignedDE => (0b11011110#8, [])
  | .unassignedE1 => (0b11100001#8, [])
  | .unassignedE8 => (0b11101000#8, [])
  | .unassignedE9 => (0b11101001#8, [])
  | .unassignedEA => (0b11101010#8, [])
  | .unassignedEC => (0b11101100#8, [])
  | .unassignedED => (0b11101101#8, [])
  | .unassignedEE => (0b11101110#8, [])
  | .unassignedF1 => (0b11110001#8, [])
  | .unassignedF8 => (0b11111000#8, [])
  | .unassignedF9 => (0b11111001#8, [])
  | .unassignedFA => (0b11111010#8, [])
  | .unassignedFC => (0b11111100#8, [])
  | .unassignedFE => (0b11111110#8, [])

/-- The opcode byte of an instruction. -/
def Instr.opcode (i : Instr) : Byte := i.layout.1

/-- The immediate bytes of an instruction. -/
def Instr.immediate (i : Instr) : List Byte := i.layout.2

/-- The bytes of an instruction, the opcode first. -/
def encode (i : Instr) : List Byte := i.opcode :: i.immediate

/-- The nine bytes (the longest instruction, R80) of an instruction given as the number `w`, bit 0
the least significant bit of the first byte; every byte beyond the first `nbits` bits is 0. -/
def wordBytes (nbits w : Nat) : List Byte :=
  leBytes 9 (w % 2 ^ (8 * ((nbits + 7) / 8)))

/-- The instruction the decoder reads from the opcode-table word `w` of `nbits` bits. -/
def decodeTableWord (nbits w : Nat) : Option Instr :=
  match decode (wordBytes nbits w) with
  | .ok (i, _) => some i
  | .error _ => none

end Sys2Proof
end

