-- ==== Sys2Proof/Machine/Memory.lean ====
section
/-! DEFINITION. Memory: one space of 8-bit bytes at 64-bit addresses (10_state.md R37, 20_memory.md
R50), held as the list of the bytes that differ from what an unlisted address reads as. -/

namespace Sys2Proof.Machine

/-- Memory as plain data: (address, byte) pairs in the canonical form of `Memory.wf`. -/
abbrev Memory := List Host.Cell

/-- What an address that is not listed reads as. DESIGN CHOICE 7 (unsafe): the spec leaves memory
outside the launch image unspecified (R40); its test vectors take 0x00. -/
def unlistedByte : Byte := 0x00#8

/-- No entry stands for what an unlisted address reads as, every address is a 64-bit one, and every
address is above `low`. -/
def Memory.wfAbove (low : Nat) : Memory → Bool
  | [] => true
  | c :: m => decide (low ≤ c.1) && decide (c.1 < 2 ^ 64) && c.2 != unlistedByte && Memory.wfAbove (c.1 + 1) m

/-- The canonical form: addresses strictly rising, below 2^64, no entry equal to `unlistedByte`. -/
def Memory.wf (m : Memory) : Bool := Memory.wfAbove 0 m

/-- The byte at an address (R50). -/
def Memory.get : Memory → Nat → Byte
  | [], _ => unlistedByte
  | c :: m, a => if c.1 = a then c.2 else Memory.get m a

/-- Put a byte at an address, keeping the canonical form. -/
def Memory.set : Memory → Nat → Byte → Memory
  | [], a, v => if v = unlistedByte then [] else [(a, v)]
  | c :: m, a, v =>
    if c.1 < a then c :: Memory.set m a v
    else if c.1 = a then (if v = unlistedByte then m else (a, v) :: m)
    else (if v = unlistedByte then c :: m else (a, v) :: c :: m)

/-- The bytes at `a`, `a + 1`, …, `a + n - 1`, addresses modulo 2^64 (R50, R53). -/
def Memory.readBytes (m : Memory) (a : Cell) : Nat → List Byte
  | 0 => []
  | n + 1 => m.get a.toNat :: Memory.readBytes m (a + 1) n

/-- Store bytes at `a`, `a + 1`, …, addresses modulo 2^64 (R50, R54). -/
def Memory.writeBytes (m : Memory) (a : Cell) : List Byte → Memory
  | [] => m
  | b :: bs => Memory.writeBytes (m.set a.toNat b) (a + 1) bs

/-- The value of the `n` bytes at `a`, little-endian (R53). -/
def Memory.read (m : Memory) (a : Cell) (n : Nat) : Nat := leNat (m.readBytes a n)

/-- Store the `n` low bytes of `v` at `a`, little-endian (R54). -/
def Memory.write (m : Memory) (a : Cell) (n : Nat) (v : Nat) : Memory := m.writeBytes a (leBytes n v)

/-- Rebuild a memory in canonical form; a memory already in it is unchanged. -/
def Memory.normalise (m : Memory) : Memory :=
  m.foldr (fun c acc => acc.set (c.1 % 2 ^ 64) c.2) []

/-- The address of byte `i` of an access at `a` (R50). -/
def byteAddr (a : Cell) (i : Nat) : Nat := (a + BitVec.ofNat 64 i).toNat

/-- Add an address to a strictly rising list of addresses. -/
def insertAddr (a : Nat) : List Nat → List Nat
  | [] => [a]
  | x :: xs => if x < a then x :: insertAddr a xs else if x = a then x :: xs else a :: x :: xs

/-- Add the addresses of an `n`-byte access at `a`. -/
def insertAddrs (a : Cell) : Nat → List Nat → List Nat
  | 0, xs => xs
  | n + 1, xs => insertAddrs (a + 1) n (insertAddr a.toNat xs)

/-- Strictly rising, every entry at least `low` and below 2^64. -/
def risingAbove (low : Nat) : List Nat → Bool
  | [] => true
  | x :: xs => decide (low ≤ x) && decide (x < 2 ^ 64) && risingAbove (x + 1) xs

end Sys2Proof.Machine
end

