-- ==== Sys2Proof/Machine/State.lean ====
section
/-! DEFINITION. The state of the machine (10_state.md), the traps it can hand to the environment
(60_exceptions.md R351), the reasons a step can stop, and the state after reset (R40, R381). -/

namespace Sys2Proof.Machine

/-- A trap: its cause and the information recorded with it (60_exceptions.md R351). -/
inductive Trap where
  /-- BRK with `cond` TRUE; the address of the BRK opcode (R354) -/
  | breakpoint (addr : Cell)
  /-- SC with `cond` TRUE; the address of the SC opcode (R355) -/
  | syscall (addr : Cell)
  /-- an opcode byte that is not defined; the byte, its address being `pc` (R353) -/
  | illegalOpcode (op : Byte)
  /-- an access that is not permitted or not aligned; address, bytes and kind (R356) -/
  | memFault (addr : Cell) (n : Nat) (kind : AccessKind)
  /-- CR!, CR@, DI or EI left to software; the address of the opcode (R357) -/
  | emulation (addr : Cell)
  deriving DecidableEq, Repr, Inhabited

/-- Why the machine stops with a fault. The first five are the `Undefined(REASON)` of R358: the spec
gives the step no result and asks a model to treat it as a fault that never continues. -/
inductive Fault where
  /-- Raised by an instruction that needs more data-stack cells than are present (R10, R358).
  Safe: the hardware may do anything there and the model does nothing. -/
  | dstackUnderflow
  /-- Raised by a push onto a data stack that holds DS_DEPTH cells (R10, R358). Safe, likewise. -/
  | dstackOverflow
  /-- Raised by an instruction that needs a return-stack cell where there is none (R10, R358).
  Safe, likewise. -/
  | rstackUnderflow
  /-- Raised by a push onto a return stack that holds RS_DEPTH cells (R10, R358). Safe, likewise. -/
  | rstackOverflow
  /-- Raised by a fetch of a byte stored to since the launch, when FETCH_COHERENT is false
  (R67, R358). Safe, likewise. -/
  | fetchOfWrittenByte
  /-- Raised by the step after a trap when TrapEnv answers `halt`: the run is over, with the trap
  that ended it (R352, R389). Safe: nothing is claimed of what follows. -/
  | halted (t : Trap)
  deriving DecidableEq, Repr

/-- Why the machine gives an instruction no meaning. -/
inductive Refusal where
  /-- An instruction that has no meaning yet; raised by its arm of `exec`. Safe. No arm raises it:
  every instruction of this model has its meaning. -/
  | notModelled (mnemonic : String)
  deriving DecidableEq, Repr

/-- The state of one ISA/NG processor (R20), and four fields of the model's own (`platform`, `trap`,
`stored`, `config`), each said so. -/
structure State where
  /-- the data stack, top first: `T` is its head and `S` the cell after it (R21) -/
  D : List Cell
  /-- the return stack, top first (R22) -/
  Rs : List Cell
  /-- the program counter: the address of the opcode byte of the instruction to execute (R25) -/
  pc : Cell
  /-- the carry flag (R28) -/
  C : Bool
  /-- the COND latch: `none`, or the Boolean a COND left (R31) -/
  condp : Option Bool
  /-- the SEC latch (R32) -/
  secp : Bool
  /-- the interrupt-enable latch (R35) -/
  IE : Bool
  /-- memory (R37) -/
  mem : Memory
  /-- the control-register space (R36) and whatever else the environment functions keep (R39), as
  one number that only they read and write: no rule gives it any structure -/
  platform : Nat
  /-- the model's own: the trap a finished step hands to the environment, `none` while the machine
  runs. With the rest of the state it is the triple of R352. -/
  trap : Option Trap
  /-- the model's own: the addresses stored to since the launch, kept only when FETCH_COHERENT is
  false, for the fault `fetchOfWrittenByte` (R67) -/
  stored : List Nat
  /-- the model's own: the parameters of 00_scope.md R7, which no step changes (R39) -/
  config : Config
  deriving DecidableEq, Repr, Inhabited

namespace State

/-- Replace the data stack. -/
def withD (s : State) (v : List Cell) : State := { s with D := v }
/-- Replace the return stack. -/
def withRs (s : State) (v : List Cell) : State := { s with Rs := v }
/-- Replace the program counter. -/
def withPc (s : State) (v : Cell) : State := { s with pc := v }
/-- Replace the carry flag. -/
def withC (s : State) (v : Bool) : State := { s with C := v }
/-- Replace the COND latch. -/
def withCondp (s : State) (v : Option Bool) : State := { s with condp := v }
/-- Replace the SEC latch. -/
def withSecp (s : State) (v : Bool) : State := { s with secp := v }
/-- Replace the interrupt-enable latch. -/
def withIE (s : State) (v : Bool) : State := { s with IE := v }
/-- Replace memory. -/
def withMem (s : State) (v : Memory) : State := { s with mem := v }
/-- Replace the platform's state. -/
def withPlatform (s : State) (v : Nat) : State := { s with platform := v }
/-- Replace the trap handed to the environment. -/
def withTrap (s : State) (v : Option Trap) : State := { s with trap := v }
/-- Replace the record of stored addresses. -/
def withStored (s : State) (v : List Nat) : State := { s with stored := v }
/-- Replace the parameters; no step does (R39). -/
def withConfig (s : State) (v : Config) : State := { s with config := v }

end State

/-- The reset state under a setting of the parameters, a launch image, and a choice of everything
the spec calls unspecified: `C`, `IE` and the platform's state (R40, R381). -/
def State.launch (config : Config) (image : Memory) (c ie : Bool) (platform : Nat) : State where
  D := []
  Rs := []
  pc := config.resetPc
  C := c
  condp := none
  secp := false
  IE := ie
  mem := image
  platform := platform
  trap := none
  stored := []
  config := config

/-- The machine right after reset (R40, R380, R381): default parameters, nothing loaded. `C`, `IE` and
the platform's state are unspecified there and take the values of DESIGN CHOICES 4, 5 and 6 (unsafe). -/
def State.reset : State := State.launch {} [] false false 0

end Sys2Proof.Machine
end

