-- ==== Sys2Proof/Machine/Environment.lean ====
section
/-! DEFINITION. The environment functions of 00_scope.md R7 that take the machine's state: CRRead and
CRWrite (10_state.md R36, decision D16) and TrapEnv (60_exceptions.md R352, decision D13). The spec
says nothing of what they answer, so each is an opaque constant of Config (DESIGN CHOICE 3): a
statement proved about the machine holds whatever they are. -/

namespace Sys2Proof

/-- CRWrite(n, v, st), the state it answers: register number, value, and the state after the two
operands are popped and the latches taken (R36, R128). -/
opaque Config.crWrite : Cell → Cell → Machine.State → Machine.State

/-- Whether CRWrite(n, v, st) answers with a trap instead, under `crTraps = .platform` (R36). -/
opaque Config.crWriteTraps : Cell → Cell → Machine.State → Bool

/-- CRRead(n, st), the pair it answers: the value read and the new state (R36, R129). -/
opaque Config.crRead : Cell → Machine.State → Cell × Machine.State

/-- Whether CRRead(n, st) answers with a trap instead, under `crTraps = .platform` (R36). -/
opaque Config.crReadTraps : Cell → Machine.State → Bool

/-- TrapEnv(cause, info, st) under `trapEnv = .platform`: the state from which stepping continues, or
`none` for `halt` (R352). -/
opaque Config.trapAnswer : Machine.Trap → Machine.State → Option Machine.State

namespace Machine

/-- The top `d - room` cells of a stack of capacity `d`; the whole of an unbounded one. -/
def fitStack (depth : Option Nat) (room : Nat) (xs : List Cell) : List Cell :=
  match depth with
  | none => xs
  | some d => xs.take (d - room)

/-- Read an environment function's answer `t`, given in state `s`, as a state of this machine: the
parameters and the model's own bookkeeping are `s`'s (R39), no trap is pending, the memory is in
canonical form, and the stacks fit their capacity with `room` cells of the data stack free.
DEDUCED 10 (unsafe for an environment that changes a parameter): an answer that is a state of the
machine already is unchanged. -/
def State.adopt (s : State) (room : Nat) (t : State) : State :=
  { t with
    D := fitStack s.config.dsDepth room t.D
    Rs := fitStack s.config.rsDepth 0 t.Rs
    mem := t.mem.normalise
    trap := none
    stored := s.stored
    config := s.config }

end Machine

end Sys2Proof
end

