-- ==== Sys2Proof/Machine/Ops.lean ====
section
/-! DEFINITION. The named operations every instruction is written with: the two prefix latches, the
stacks, memory access, advancing the pc, taking a trap and the environment's answer to one. -/

namespace Sys2Proof.Machine

/-- What an instruction or a step answers. -/
abbrev Result := Host.Outcome State Fault Refusal

/-! ### Traps -/

/-- `raise Trap(CAUSE, info)` with the state `s` (60_exceptions.md R352, R362): the step ends and hands
over the triple (cause, info, s). Nothing of the machine changes: the spec defines no architectural
trap entry, so no stack, `pc`, latch, `IE` or control register is written; only the model's own
field `trap` says that the triple stands (DESIGN CHOICE 2, safe). -/
def raiseTrap (t : Trap) (s : State) : Result := .next (s.withTrap (some t))

/-- What happens after a trap (R352, R362, R363): the triple goes to TrapEnv, which answers a state
to continue from, or `halt`. There is no return-from-trap instruction. -/
def answerTrap (t : Trap) (s : State) : Result :=
  match s.config.trapEnv with
  | .halt => .fault (.halted t)
  | .platform =>
    match Config.trapAnswer t (s.withTrap none) with
    | none => .fault (.halted t)
    | some s' => .next (s.adopt 0 s')

/-! ### The prefix latches -/

/-- How an instruction treats the latches (10_state.md R31 to R33). -/
inductive LatchUse where
  /-- reads neither -/
  | plain
  /-- one of the 14 opcodes that read `cond` (R31) -/
  | transfer
  /-- a COND, which reads `sec` and then writes `condp` (R32, R250) -/
  | cond
  deriving DecidableEq, Repr

/-- The condition an instruction sees: TRUE when no COND is pending (R31). -/
def State.cond (s : State) : Bool :=
  match s.condp with
  | none => true
  | some b => b

/-- The latches after an instruction has taken them, before COND or SEC sets its own (R33): with
PREFIX_PERSIST false every instruction clears both; with it true `condp` is cleared only by the 14
opcodes that read it and `secp` only by COND. -/
def State.takeLatches (u : LatchUse) (s : State) : State :=
  match s.config.prefixPersist with
  | false => (s.withCondp none).withSecp false
  | true =>
    match u with
    | .plain => s
    | .transfer => s.withCondp none
    | .cond => s.withSecp false

/-! ### The program counter -/

/-- `pc <- pc + n`, modulo 2^64 (R26, decision D20). -/
def State.advance (n : Nat) (s : State) : State := s.withPc (s.pc + BitVec.ofNat 64 n)

/-- The end of an instruction that reads no latch and does not assign `pc`: the latches are taken
and `pc` passes its `len` bytes (R12, R26, R33). -/
def finish (len : Nat) (s : State) : Result := .next ((s.takeLatches .plain).advance len)

/-! ### The stacks -/

/-- A push onto this stack does not exceed its capacity (R10; DEDUCED 17, safe). -/
def hasRoom (depth : Option Nat) (xs : List Cell) : Bool :=
  match depth with
  | none => true
  | some d => decide (xs.length < d)

/-- `pushD(v)` (R10). -/
def pushD (v : Cell) (s : State) (k : State → Result) : Result :=
  if hasRoom s.config.dsDepth s.D then k (s.withD (v :: s.D)) else .fault .dstackOverflow

/-- `pushR(v)` (R10). -/
def pushR (v : Cell) (s : State) (k : State → Result) : Result :=
  if hasRoom s.config.rsDepth s.Rs then k (s.withRs (v :: s.Rs)) else .fault .rstackOverflow

/-- `popD()` (R10). -/
def popD (s : State) (k : Cell → State → Result) : Result :=
  match s.D with
  | x :: rest => k x (s.withD rest)
  | [] => .fault .dstackUnderflow

/-- `popS()`: remove the second cell and leave the top (R10). -/
def popS (s : State) (k : Cell → State → Result) : Result :=
  match s.D with
  | t :: x :: rest => k x (s.withD (t :: rest))
  | _ => .fault .dstackUnderflow

/-- `popR()` (R10). -/
def popR (s : State) (k : Cell → State → Result) : Result :=
  match s.Rs with
  | x :: rest => k x (s.withRs rest)
  | [] => .fault .rstackUnderflow

/-! ### Memory access -/

/-- The byte address `x` is in MEM_POP (R50). -/
def populated (c : Config) (x : Nat) : Bool :=
  c.memPop.any fun r => decide (r.base ≤ x) && decide (x < r.base + r.size)

/-- `Access(addr, n, kind)` (20_memory.md R51): every one of the n bytes is populated, and the
platform's protection, where there is any, agrees (DESIGN CHOICE 18, safe). -/
def State.access (s : State) (a : Cell) (n : Nat) (kind : AccessKind) : Bool :=
  ((List.range n).all fun i => populated s.config (byteAddr a i)) &&
    (match s.config.protection with
      | .none => true
      | .platform => Config.freeAccess s.platform a n kind)

/-- A data access that ALIGN_STRICT refuses (R57). -/
def State.misaligned (s : State) (a : Cell) (n : Nat) : Bool :=
  s.config.alignStrict && decide (a.toNat % n ≠ 0)

/-- `MemRead(a, n)` (R53): alignment, then `Access`, then the value, little-endian. -/
def memRead (s : State) (a : Cell) (n : Nat) (k : Nat → Result) : Result :=
  if s.misaligned a n then raiseTrap (.memFault a n .load) s
  else if s.access a n .load then k (s.mem.read a n)
  else raiseTrap (.memFault a n .load) s

/-- The state with the `n` low bytes of `v` stored at `a` (R54), and those addresses noted where a
later fetch of them is to be refused (R67). -/
def State.store (s : State) (a : Cell) (n : Nat) (v : Nat) : State :=
  (s.withMem (s.mem.write a n v)).withStored
    (if s.config.fetchCoherent then s.stored else insertAddrs a n s.stored)

/-- `MemWrite(a, n, v)` (R54): alignment, then `Access`, then the store. -/
def memWrite (s : State) (a : Cell) (n : Nat) (v : Nat) (k : State → Result) : Result :=
  if s.misaligned a n then raiseTrap (.memFault a n .store) s
  else if s.access a n .store then k (s.store a n v)
  else raiseTrap (.memFault a n .store) s

/-- One of the n bytes at `a` was stored to since the launch, and FETCH_COHERENT is false (R67;
DEDUCED 12, safe but for an environment that rewrites instruction bytes). -/
def State.fetchRefused (s : State) (a : Cell) (n : Nat) : Bool :=
  !s.config.fetchCoherent && (List.range n).any fun i => s.stored.contains (byteAddr a i)

/-- `Fetch(a, n)` (R55, R58, R67): `Access` with kind fetch and no alignment check. -/
def fetch (s : State) (a : Cell) (n : Nat) (k : Nat → Result) : Result :=
  if s.access a n .fetch then
    if s.fetchRefused a n then .fault .fetchOfWrittenByte else k (s.mem.read a n)
  else raiseTrap (.memFault a n .fetch) s

end Sys2Proof.Machine
end

