-- ==== Sys2Proof/Machine/Operands.lean ====
section
/-! DEFINITION. The operand forms: two cells or one, kept or popped (30_encoding.md R86 to R88),
PC-relative displacements (46_branches.md R275), the operands of a store (49_loads_stores.md R325)
and the extension of a value to a cell. -/

namespace Sys2Proof.Machine

/-- The D bit of BOOL2, BOOL1 and ADDSUB2: the inputs stay under the result, or are popped first. -/
inductive Inputs where
  /-- D = 0 -/
  | kept
  /-- D = 1 -/
  | popped
  deriving DecidableEq, Repr

/-- An instruction of two inputs, x2 the top cell and x1 the second, whose function gives the result
and the new carry (42_bool2.md R170, 44_addsub2.md R225, 47_shifts.md R290). Two cells must be
present whatever the function reads (R171). With the inputs popped no overflow can occur. -/
def binary (inputs : Inputs) (f : Cell → Cell → Bool → Cell × Bool) (s : State) : Result :=
  match s.D with
  | x2 :: x1 :: rest =>
    let r := f x1 x2 s.C
    match inputs with
    | .kept => pushD r.1 s fun t => finish 1 (t.withC r.2)
    | .popped => finish 1 ((s.withD (r.1 :: rest)).withC r.2)
  | _ => .fault .dstackUnderflow

/-- An instruction of one input, the top cell (43_bool1.md R210, R211). -/
def unary (inputs : Inputs) (f : Cell → Cell) (s : State) : Result :=
  match s.D with
  | x1 :: rest =>
    match inputs with
    | .kept => pushD (f x1) s fun t => finish 1 t
    | .popped => finish 1 (s.withD (f x1 :: rest))
  | [] => .fault .dstackUnderflow

/-- `pc + disp`, or `pc + 1 + n + disp` under REL_BASE = next, modulo 2^64 (R275, R310): the
effective address of an instruction with an n-byte displacement. -/
def State.relative (s : State) (n : Nat) (disp : Cell) : Cell :=
  match s.config.relBase with
  | .opcode => s.pc + disp
  | .next => s.pc + BitVec.ofNat 64 (1 + n) + disp

/-- The address and the datum of a store whose top cell is `t` and second cell `u` (R325). -/
def State.storeOperands (s : State) (t u : Cell) : Cell × Cell :=
  match s.config.storeOrder with
  | .addrOnTop => (t, u)
  | .dataOnTop => (u, t)

/-- The cell a load pushes for the `n`-byte value `v`: sign-extended or zero-extended (R335). -/
def extendLoaded (signed : Bool) (n : Nat) (v : Nat) : Cell :=
  if signed then (BitVec.ofNat (8 * n) v).signExtend 64 else (BitVec.ofNat (8 * n) v).zeroExtend 64

end Sys2Proof.Machine
end

