-- ==== Sys2Proof/Machine/Flags.lean ====
section
/-! DEFINITION. The functions of the data path and the carry each gives: the look-up tables, the
adder, the shifts, PERMUTE, and the test of COND. -/

namespace Sys2Proof.Machine

/-! ### Look-up tables -/

/-- A cell of 64 copies of a bit. -/
def spread (b : Bool) : Cell := if b then BitVec.allOnes 64 else 0#64

/-- BOOL2's function: bit by bit, a for inputs (x1, x2) = (0, 0), b for (0, 1), c for (1, 0) and d
for (1, 1) (42_bool2.md R170). -/
def lut2 (a b c d : Bool) (x1 x2 : Cell) : Cell :=
  (spread a &&& ~~~x1 &&& ~~~x2) ||| (spread b &&& ~~~x1 &&& x2) |||
    (spread c &&& x1 &&& ~~~x2) ||| (spread d &&& x1 &&& x2)

/-- BOOL1's function: bit by bit, c for input 0 and d for input 1 (43_bool1.md R210). -/
def lut1 (c d : Bool) (x1 : Cell) : Cell := (spread c &&& ~~~x1) ||| (spread d &&& x1)

/-! ### The adder -/

/-- The `cc` field of ADDSUB2 (30_encoding.md R88). -/
inductive CarryIn where
  /-- 00: assume carry is clear -/
  | clear
  /-- 01: assume carry is set -/
  | set
  /-- 10: use the carry flag as it is -/
  | asIs
  /-- 11: use the inverted carry flag -/
  | inverted
  deriving DecidableEq, Repr

/-- The carry into the adder (44_addsub2.md R225). -/
def CarryIn.value (cc : CarryIn) (c : Bool) : Bool :=
  match cc with
  | .clear => false
  | .set => true
  | .asIs => c
  | .inverted => !c

/-- ADDSUB2's 65-bit sum (R225): x1, x2 inverted if `b`, and the selected carry. -/
def sum65 (b : Bool) (cc : CarryIn) (x1 x2 : Cell) (c : Bool) : Nat :=
  x1.toNat + (if b then ~~~x2 else x2).toNat + (cc.value c).toNat

/-- ADDSUB2's result, bits 63:0 of the sum, and its carry out, bit 64 (R225, R226). -/
def addSub (b : Bool) (cc : CarryIn) (x1 x2 : Cell) (c : Bool) : Cell × Bool :=
  (BitVec.ofNat 64 (sum65 b cc x1 x2 c), decide (2 ^ 64 ≤ sum65 b cc x1 x2 c))

/-! ### Shifts and rotations -/

/-- The one-bit step of each shift and rotate: the new operand and the new carry (47_shifts.md R291). -/
def shiftStep (op : ShiftOp) (n : Cell) (c : Bool) : Cell × Bool :=
  match op with
  | .lsl => (n <<< 1, n.msb)
  | .lsr => (n >>> 1, n.getLsbD 0)
  | .asr => (n.sshiftRight 1, n.getLsbD 0)
  | .rl => ((n <<< 1) ||| (BitVec.ofBool n.msb).zeroExtend 64, n.msb)
  | .rr => ((n >>> 1) ||| ((BitVec.ofBool (n.getLsbD 0)).zeroExtend 64 <<< 63), n.getLsbD 0)
  | .rlc => ((n <<< 1) ||| (BitVec.ofBool c).zeroExtend 64, n.msb)
  | .rrc => ((n >>> 1) ||| ((BitVec.ofBool c).zeroExtend 64 <<< 63), n.getLsbD 0)

/-- A count of `k` as the one-bit step applied `k` times (R292): the definition the closed forms of
`shiftBy` are held against. -/
def shiftIterate (op : ShiftOp) : Nat → Cell → Bool → Cell × Bool
  | 0, n, c => (n, c)
  | k + 1, n, c => shiftIterate op k (shiftStep op n c).1 (shiftStep op n c).2

/-- The result of a count of `k`, by the closed forms of R292. -/
def shiftBy (op : ShiftOp) (k : Nat) (n : Cell) (c : Bool) : Cell × Bool :=
  if k = 0 then (n, c)
  else
    match op with
    | .lsl => if k ≤ 64 then (n <<< k, n.getLsbD (64 - k)) else (0#64, false)
    | .lsr => if k ≤ 64 then (n >>> k, n.getLsbD (k - 1)) else (0#64, false)
    | .asr => if k ≤ 63 then (n.sshiftRight k, n.getLsbD (k - 1)) else (spread n.msb, n.msb)
    | .rl => (n.rotateLeft (k % 64), (n.rotateLeft (k % 64)).getLsbD 0)
    | .rr => (n.rotateRight (k % 64), (n.rotateRight (k % 64)).msb)
    | .rlc => (((BitVec.cons c n).rotateLeft (k % 65)).setWidth 64, ((BitVec.cons c n).rotateLeft (k % 65)).msb)
    | .rrc => (((BitVec.cons c n).rotateRight (k % 65)).setWidth 64, ((BitVec.cons c n).rotateRight (k % 65)).msb)

/-- The result of a shift or rotate (R292, R7 SHIFT_FN): a count of 1 is the step of R291; any other
count is the closed form, or the platform's own function. -/
def shiftResult (fn : ShiftFn) (op : ShiftOp) (n cnt : Cell) (c : Bool) : Cell × Bool :=
  match fn with
  | .iterate => shiftBy op cnt.toNat n c
  | .platform =>
    if cnt.toNat = 1 then shiftStep op n c else Config.freeShift op n cnt.toNat c

/-- Nybble `i` of a cell, 0 the least significant (R296). -/
def nybble (v : Cell) (i : Nat) : BitVec 4 := v.extractLsb' (4 * i) 4

/-- PERMUTE (R296): nybble i of `n` goes to the destination that nybble i of `idx` names; sources
routed to one destination are ORed; a destination without a source is 0. -/
def permute (n idx : Cell) : Cell :=
  (List.range 16).foldl
    (fun r i => r ||| ((nybble n i).zeroExtend 64 <<< (4 * (nybble idx i).toNat))) 0#64

/-! ### The test of COND -/

/-- COND's three-term OR compared with y (45_cond.md R250). -/
def condTest (a b c y : Bool) (value : Cell) (carry : Bool) : Bool :=
  ((value.msb && a) || (decide (value = 0#64) && b) || (carry && c)) == y

end Sys2Proof.Machine
end

