-- ==== Sys2Proof/Machine/AddSub2.lean ====
section
/-! DEFINITION. The meanings of groups 6 and 7, ADDSUB2 (44_addsub2.md). -/

namespace Sys2Proof.Machine

/-- ADDSUB2 (R225): the 65-bit sum of the two top cells, whose bit 64 is always written to `C`. -/
def addSub2 (b : Bool) (cc : CarryIn) (inputs : Inputs) (s : State) : Result :=
  binary inputs (addSub b cc) s

/-- `2DUP ADD` `( x1 x2 -- x1 x2 x )`, R228: b = 0, cc = 00, D = 0. -/
def execTwodupAdd (s : State) : Result := addSub2 false .clear .kept s

/-- `ADD` `( x1 x2 -- x )`, R236: b = 0, cc = 00, D = 1. -/
def execAdd (s : State) : Result := addSub2 false .clear .popped s

/-- `2DUP ADD 1+` `( x1 x2 -- x1 x2 x )`, R229: b = 0, cc = 01, D = 0. -/
def execTwodupAddPlus1 (s : State) : Result := addSub2 false .set .kept s

/-- `ADD 1+` `( x1 x2 -- x )`, R237: b = 0, cc = 01, D = 1. -/
def execAddPlus1 (s : State) : Result := addSub2 false .set .popped s

/-- `2DUP ADC` `( x1 x2 -- x1 x2 x )`, R230: b = 0, cc = 10, D = 0. -/
def execTwodupAdc (s : State) : Result := addSub2 false .asIs .kept s

/-- `ADC` `( x1 x2 -- x )`, R238: b = 0, cc = 10, D = 1. -/
def execAdc (s : State) : Result := addSub2 false .asIs .popped s

/-- `2DUP ADC 1-` `( x1 x2 -- x1 x2 x )`, R231: b = 0, cc = 11, D = 0. -/
def execTwodupAdcMinus1 (s : State) : Result := addSub2 false .inverted .kept s

/-- `ADC 1-` `( x1 x2 -- x )`, R239: b = 0, cc = 11, D = 1. -/
def execAdcMinus1 (s : State) : Result := addSub2 false .inverted .popped s

/-- `2DUP SUB 1-` `( x1 x2 -- x1 x2 x )`, R232: b = 1, cc = 00, D = 0. -/
def execTwodupSubMinus1 (s : State) : Result := addSub2 true .clear .kept s

/-- `SUB 1-` `( x1 x2 -- x )`, R240: b = 1, cc = 00, D = 1. -/
def execSubMinus1 (s : State) : Result := addSub2 true .clear .popped s

/-- `2DUP SUB` `( x1 x2 -- x1 x2 x )`, R233: b = 1, cc = 01, D = 0. -/
def execTwodupSub (s : State) : Result := addSub2 true .set .kept s

/-- `SUB` `( x1 x2 -- x )`, R241: b = 1, cc = 01, D = 1. -/
def execSub (s : State) : Result := addSub2 true .set .popped s

/-- `2DUP SBC` `( x1 x2 -- x1 x2 x )`, R234: b = 1, cc = 10, D = 0. -/
def execTwodupSbc (s : State) : Result := addSub2 true .asIs .kept s

/-- `SBC` `( x1 x2 -- x )`, R242: b = 1, cc = 10, D = 1. -/
def execSbc (s : State) : Result := addSub2 true .asIs .popped s

/-- `2DUP SBC 1-` `( x1 x2 -- x1 x2 x )`, R235: b = 1, cc = 11, D = 0. -/
def execTwodupSbcMinus1 (s : State) : Result := addSub2 true .inverted .kept s

/-- `SBC 1-` `( x1 x2 -- x )`, R243: b = 1, cc = 11, D = 1. -/
def execSbcMinus1 (s : State) : Result := addSub2 true .inverted .popped s

end Sys2Proof.Machine
end

