-- ==== Sys2Proof/Machine/Bool1.lean ====
section
/-! DEFINITION. The meanings of groups 4 and 5, BOOL1 (43_bool1.md). -/

namespace Sys2Proof.Machine

/-- BOOL1 (R210, R211): the look-up table cd over the top cell; `C` is unchanged. -/
def bool1 (c d : Bool) (inputs : Inputs) (s : State) : Result := unary inputs (lut1 c d) s

/-- `0` `( x1 -- x1 0 )`, R212: cd = 00, D = 0. -/
def execZero1 (s : State) : Result := bool1 false false .kept s

/-- `DROP 0` `( x1 -- 0 )`, R216: cd = 00, D = 1. -/
def execDropZero (s : State) : Result := bool1 false false .popped s

/-- `DUP` `( x1 -- x1 x1 )`, R213: cd = 01, D = 0. -/
def execDup1 (s : State) : Result := bool1 false true .kept s

/-- `NOP` `( x1 -- x1 )`, R217: cd = 01, D = 1. -/
def execNop (s : State) : Result := bool1 false true .popped s

/-- `DUP INVERT` `( x1 -- x1 x )`, R214: cd = 10, D = 0. -/
def execDupInvert1 (s : State) : Result := bool1 true false .kept s

/-- `INVERT` `( x1 -- x )`, R218: cd = 10, D = 1. -/
def execInvert (s : State) : Result := bool1 true false .popped s

/-- `-1` `( x1 -- x1 -1 )`, R215: cd = 11, D = 0. -/
def execNegOne1 (s : State) : Result := bool1 true true .kept s

/-- `DROP -1` `( x1 -- -1 )`, R219: cd = 11, D = 1. -/
def execDropNegOne (s : State) : Result := bool1 true true .popped s

end Sys2Proof.Machine
end

