-- ==== Sys2Proof/Machine/Bool2.lean ====
section
/-! DEFINITION. The meanings of groups 2 and 3, BOOL2 (42_bool2.md). -/

namespace Sys2Proof.Machine

/-- BOOL2 (R170, R171): the look-up table abcd over the two top cells; `C` is unchanged. -/
def bool2 (a b c d : Bool) (inputs : Inputs) (s : State) : Result :=
  binary inputs (fun x1 x2 carry => (lut2 a b c d x1 x2, carry)) s

/-- `0` `( x1 x2 -- x1 x2 x )`, R173: abcd = 0000, D = 0. -/
def execZero2 (s : State) : Result := bool2 false false false false .kept s

/-- `2DROP 0` `( x1 x2 -- x )`, R189: abcd = 0000, D = 1. -/
def execTwodropZero (s : State) : Result := bool2 false false false false .popped s

/-- `2DUP AND` `( x1 x2 -- x1 x2 x )`, R174: abcd = 0001, D = 0. -/
def execTwodupAnd (s : State) : Result := bool2 false false false true .kept s

/-- `AND` `( x1 x2 -- x )`, R190: abcd = 0001, D = 1. -/
def execAnd (s : State) : Result := bool2 false false false true .popped s

/-- `2DUP BIC` `( x1 x2 -- x1 x2 x )`, R175: abcd = 0010, D = 0. -/
def execTwodupBic (s : State) : Result := bool2 false false true false .kept s

/-- `BIC` `( x1 x2 -- x )`, R191: abcd = 0010, D = 1. -/
def execBic (s : State) : Result := bool2 false false true false .popped s

/-- `OVER` `( x1 x2 -- x1 x2 x )`, R176: abcd = 0011, D = 0. -/
def execOver2 (s : State) : Result := bool2 false false true true .kept s

/-- `DROP` `( x1 x2 -- x )`, R192: abcd = 0011, D = 1. -/
def execDrop (s : State) : Result := bool2 false false true true .popped s

/-- `2DUP SWAP BIC` `( x1 x2 -- x1 x2 x )`, R177: abcd = 0100, D = 0. -/
def execTwodupSwapBic (s : State) : Result := bool2 false true false false .kept s

/-- `SWAP BIC` `( x1 x2 -- x )`, R193: abcd = 0100, D = 1. -/
def execSwapBic (s : State) : Result := bool2 false true false false .popped s

/-- `DUP` `( x1 x2 -- x1 x2 x )`, R178: abcd = 0101, D = 0. -/
def execDup2 (s : State) : Result := bool2 false true false true .kept s

/-- `NIP` `( x1 x2 -- x )`, R194: abcd = 0101, D = 1. -/
def execNip (s : State) : Result := bool2 false true false true .popped s

/-- `2DUP XOR` `( x1 x2 -- x1 x2 x )`, R179: abcd = 0110, D = 0. -/
def execTwodupXor (s : State) : Result := bool2 false true true false .kept s

/-- `XOR` `( x1 x2 -- x )`, R195: abcd = 0110, D = 1. -/
def execXor (s : State) : Result := bool2 false true true false .popped s

/-- `2DUP OR` `( x1 x2 -- x1 x2 x )`, R180: abcd = 0111, D = 0. -/
def execTwodupOr (s : State) : Result := bool2 false true true true .kept s

/-- `OR` `( x1 x2 -- x )`, R196: abcd = 0111, D = 1. -/
def execOr (s : State) : Result := bool2 false true true true .popped s

/-- `2DUP NOR` `( x1 x2 -- x1 x2 x )`, R181: abcd = 1000, D = 0. -/
def execTwodupNor (s : State) : Result := bool2 true false false false .kept s

/-- `NOR` `( x1 x2 -- x )`, R197: abcd = 1000, D = 1. -/
def execNor (s : State) : Result := bool2 true false false false .popped s

/-- `2DUP XNOR` `( x1 x2 -- x1 x2 x )`, R182: abcd = 1001, D = 0. -/
def execTwodupXnor (s : State) : Result := bool2 true false false true .kept s

/-- `XNOR` `( x1 x2 -- x )`, R198: abcd = 1001, D = 1. -/
def execXnor (s : State) : Result := bool2 true false false true .popped s

/-- `DUP INVERT` `( x1 x2 -- x1 x2 x )`, R183: abcd = 1010, D = 0. -/
def execDupInvert2 (s : State) : Result := bool2 true false true false .kept s

/-- `INVERT NIP` `( x1 x2 -- x )`, R199: abcd = 1010, D = 1. -/
def execInvertNip (s : State) : Result := bool2 true false true false .popped s

/-- `2DUP INVERT OR` `( x1 x2 -- x1 x2 x )`, R184: abcd = 1011, D = 0. -/
def execTwodupInvertOr (s : State) : Result := bool2 true false true true .kept s

/-- `INVERT OR` `( x1 x2 -- x )`, R200: abcd = 1011, D = 1. -/
def execInvertOr (s : State) : Result := bool2 true false true true .popped s

/-- `OVER INVERT` `( x1 x2 -- x1 x2 x )`, R185: abcd = 1100, D = 0. -/
def execOverInvert (s : State) : Result := bool2 true true false false .kept s

/-- `DROP INVERT` `( x1 x2 -- x )`, R201: abcd = 1100, D = 1. -/
def execDropInvert (s : State) : Result := bool2 true true false false .popped s

/-- `2DUP SWAP INVERT OR` `( x1 x2 -- x1 x2 x )`, R186: abcd = 1101, D = 0. -/
def execTwodupSwapInvertOr (s : State) : Result := bool2 true true false true .kept s

/-- `SWAP INVERT OR` `( x1 x2 -- x )`, R202: abcd = 1101, D = 1. -/
def execSwapInvertOr (s : State) : Result := bool2 true true false true .popped s

/-- `2DUP NAND` `( x1 x2 -- x1 x2 x )`, R187: abcd = 1110, D = 0. -/
def execTwodupNand (s : State) : Result := bool2 true true true false .kept s

/-- `NAND` `( x1 x2 -- x )`, R203: abcd = 1110, D = 1. -/
def execNand (s : State) : Result := bool2 true true true false .popped s

/-- `-1` `( x1 x2 -- x1 x2 x )`, R188: abcd = 1111, D = 0. -/
def execNegOne2 (s : State) : Result := bool2 true true true true .kept s

/-- `2DROP -1` `( x1 x2 -- x )`, R204: abcd = 1111, D = 1. -/
def execTwodropNegOne (s : State) : Result := bool2 true true true true .popped s

end Sys2Proof.Machine
end

