-- ==== Sys2Proof/Machine/Branches.lean ====
section
/-! DEFINITION. The meanings of group 10, direct jumps and calls (46_branches.md). -/

namespace Sys2Proof.Machine

/-- JMP<size> (R275, R276): transfer if `cond`, else pass the opcode and its displacement. -/
def jump (n : Nat) (disp : Cell) (s : State) : Result :=
  if s.cond then .next ((s.takeLatches .transfer).withPc (s.relative n disp))
  else .next ((s.takeLatches .transfer).advance (1 + n))

/-- CALL<size> (R275, R277): if `cond`, push the address after the displacement and transfer, else
pass the opcode and its displacement. -/
def call (n : Nat) (disp : Cell) (s : State) : Result :=
  if s.cond then
    pushR (s.pc + BitVec.ofNat 64 (1 + n)) s fun t =>
      .next ((t.takeLatches .transfer).withPc (s.relative n disp))
  else .next ((s.takeLatches .transfer).advance (1 + n))

/-- JMP8 `( -- )`, R278. -/
def execJmp8 (imm : BitVec 8) (s : State) : Result := jump 1 (imm.signExtend 64) s

/-- CALL8 `( -- ) (R: -- ra )`, R279. -/
def execCall8 (imm : BitVec 8) (s : State) : Result := call 1 (imm.signExtend 64) s

/-- JMP16 `( -- )`, R280. -/
def execJmp16 (imm : BitVec 16) (s : State) : Result := jump 2 (imm.signExtend 64) s

/-- CALL16 `( -- ) (R: -- ra )`, R281. -/
def execCall16 (imm : BitVec 16) (s : State) : Result := call 2 (imm.signExtend 64) s

/-- JMP32 `( -- )`, R282. -/
def execJmp32 (imm : BitVec 32) (s : State) : Result := jump 4 (imm.signExtend 64) s

/-- CALL32 `( -- ) (R: -- ra )`, R283. -/
def execCall32 (imm : BitVec 32) (s : State) : Result := call 4 (imm.signExtend 64) s

/-- JMP64 `( -- )`, R284. -/
def execJmp64 (imm : BitVec 64) (s : State) : Result := jump 8 imm s

/-- CALL64 `( -- ) (R: -- ra )`, R285. -/
def execCall64 (imm : BitVec 64) (s : State) : Result := call 8 imm s

end Sys2Proof.Machine
end

