-- ==== Sys2Proof/Machine/Cond.lean ====
section
/-! DEFINITION. The meanings of groups 8 and 9, the COND prefix (45_cond.md). -/

namespace Sys2Proof.Machine

/-- COND (R250, R251): pop the top cell, or after SEC remove the second, test it, and latch the
condition for the next instruction. -/
def condPrefix (a b c y : Bool) (s : State) : Result :=
  (if s.secp then popS s else popD s) fun value t =>
    .next (((t.takeLatches .cond).withCondp (some (condTest a b c y value s.C))).advance 1)

/-- `COND(always)` `( x -- )`, R253: a = 0, b = 0, c = 0, y = 0. -/
def execCondAlways (s : State) : Result := condPrefix false false false false s

/-- `COND(never)` `( x -- )`, R254: a = 0, b = 0, c = 0, y = 1. -/
def execCondNever (s : State) : Result := condPrefix false false false true s

/-- `COND(C=0)` `( x -- )`, R255: a = 0, b = 0, c = 1, y = 0. -/
def execCondC0 (s : State) : Result := condPrefix false false true false s

/-- `COND(C=1)` `( x -- )`, R256: a = 0, b = 0, c = 1, y = 1. -/
def execCondC1 (s : State) : Result := condPrefix false false true true s

/-- `COND(T<>0)` `( x -- )`, R257: a = 0, b = 1, c = 0, y = 0. -/
def execCondNz (s : State) : Result := condPrefix false true false false s

/-- `COND(T=0)` `( x -- )`, R258: a = 0, b = 1, c = 0, y = 1. -/
def execCondZ (s : State) : Result := condPrefix false true false true s

/-- `COND(T<>0&C=0)` `( x -- )`, R259: a = 0, b = 1, c = 1, y = 0. -/
def execCondNzC0 (s : State) : Result := condPrefix false true true false s

/-- `COND(T=0|C=1)` `( x -- )`, R260: a = 0, b = 1, c = 1, y = 1. -/
def execCondZC1 (s : State) : Result := condPrefix false true true true s

/-- `COND(T>=0)` `( x -- )`, R261: a = 1, b = 0, c = 0, y = 0. -/
def execCondGe (s : State) : Result := condPrefix true false false false s

/-- `COND(T<0)` `( x -- )`, R262: a = 1, b = 0, c = 0, y = 1. -/
def execCondLt (s : State) : Result := condPrefix true false false true s

/-- `COND(T>=0&C=0)` `( x -- )`, R263: a = 1, b = 0, c = 1, y = 0. -/
def execCondGeC0 (s : State) : Result := condPrefix true false true false s

/-- `COND(T<0|C=1)` `( x -- )`, R264: a = 1, b = 0, c = 1, y = 1. -/
def execCondLtC1 (s : State) : Result := condPrefix true false true true s

/-- `COND(T>0)` `( x -- )`, R265: a = 1, b = 1, c = 0, y = 0. -/
def execCondGt (s : State) : Result := condPrefix true true false false s

/-- `COND(T<=0)` `( x -- )`, R266: a = 1, b = 1, c = 0, y = 1. -/
def execCondLe (s : State) : Result := condPrefix true true false true s

/-- `COND(T>0&C=0)` `( x -- )`, R267: a = 1, b = 1, c = 1, y = 0. -/
def execCondGtC0 (s : State) : Result := condPrefix true true true false s

/-- `COND(T<=0|C=1)` `( x -- )`, R268: a = 1, b = 1, c = 1, y = 1. -/
def execCondLeC1 (s : State) : Result := condPrefix true true true true s

end Sys2Proof.Machine
end

