-- ==== Sys2Proof/Machine/Group0.lean ====
section
/-! DEFINITION. The meanings of group 0 (40_group0.md): BRK, SC, POP, PUSH, JMPDI, CALLDI, RET, SWITCH,
CR!, CR@, DI, EI, SEC, R@. -/

namespace Sys2Proof.Machine

/-- BRK and SC (R120, R121, R352): when `cond` is TRUE the trap `t` is raised with both latches cleared
and `pc` still at the opcode; otherwise a one-byte no-operation. The trap rules clear both latches
without a condition, so they do under either PREFIX_PERSIST (DEDUCED 11, unsafe if R33 overrides). -/
def trapIfCond (t : Trap) (s : State) : Result :=
  if s.cond then raiseTrap t ((s.withCondp none).withSecp false)
  else .next ((s.takeLatches .transfer).advance 1)

/-- BRK `( -- )`, R120, R354. -/
def execBrk (s : State) : Result := trapIfCond (.breakpoint s.pc) s

/-- SC `( ... -- ... )`, R121, R355. The service number is not popped. -/
def execSc (s : State) : Result := trapIfCond (.syscall s.pc) s

/-- POP `( -- x ) (R: x -- )`, R122. -/
def execPop (s : State) : Result :=
  popR s fun x t => pushD x t fun u => finish 1 u

/-- PUSH `( x -- ) (R: -- x )`, R123. -/
def execPush (s : State) : Result :=
  popD s fun x t => pushR x t fun u => finish 1 u

/-- JMPDI `( a -- )`, R124: the address is popped whether or not the jump is taken. -/
def execJmpdi (s : State) : Result :=
  popD s fun a t =>
    if s.cond then .next ((t.takeLatches .transfer).withPc a)
    else .next ((t.takeLatches .transfer).advance 1)

/-- CALLDI `( a -- ) (R: -- pc+1 )`, R125: not taken, the address stays (90_conflicts.md C13). -/
def execCalldi (s : State) : Result :=
  if s.cond then
    popD s fun a t => pushR (s.pc + 1) t fun u => .next ((u.takeLatches .transfer).withPc a)
  else .next ((s.takeLatches .transfer).advance 1)

/-- RET `( -- ) (R: a -- )`, R126: the address is popped whether or not the return is taken. -/
def execRet (s : State) : Result :=
  popR s fun a t =>
    if s.cond then .next ((t.takeLatches .transfer).withPc a)
    else .next ((t.takeLatches .transfer).advance 1)

/-- SWITCH `( -- ) (R: a -- pc+1 )`, R127: the push cannot overflow, a cell was just popped; not
taken, nothing is popped. -/
def execSwitch (s : State) : Result :=
  if s.cond then
    popR s fun a t => .next (((t.withRs ((s.pc + 1) :: t.Rs)).takeLatches .transfer).withPc a)
  else .next ((s.takeLatches .transfer).advance 1)

/-- CRWrite answers with a trap (R36, R128). -/
def crWriteRefuses (num val : Cell) (st : State) : Bool :=
  match st.config.crTraps with
  | .never => false
  | .platform => Config.crWriteTraps num val st

/-- CRRead answers with a trap (R36, R129). -/
def crReadRefuses (num : Cell) (st : State) : Bool :=
  match st.config.crTraps with
  | .never => false
  | .platform => Config.crReadTraps num st

/-- CR! `( x1 x2 -- )`, R128: x1 to control register x2 through CRWrite, whose answer becomes the
state, and then `pc <- pc + 1`. An emulation trap leaves both operands on the stack. -/
def execCrStore (s : State) : Result :=
  popD s fun num t => popD t fun val u =>
    let st := u.takeLatches .plain
    if s.config.emulateCr || crWriteRefuses num val st then raiseTrap (.emulation s.pc) s
    else .next ((s.adopt 0 (Config.crWrite num val st)).advance 1)

/-- CR@ `( x -- x )`, R129: the register number is replaced by the value CRRead answers, on the
state it answers. "The depth of D is unchanged, so no overflow can occur": the answer leaves
room for the value. -/
def execCrFetch (s : State) : Result :=
  popD s fun num t =>
    let st := t.takeLatches .plain
    if s.config.emulateCr || crReadRefuses num st then raiseTrap (.emulation s.pc) s
    else
      let r := Config.crRead num st
      let u := s.adopt 1 r.2
      .next ((u.withD (r.1 :: u.D)).advance 1)

/-- DI and EI (R130, R131): the emulation trap, or the latch IE. -/
def writeIE (b : Bool) (s : State) : Result :=
  if s.config.emulateDiei then raiseTrap (.emulation s.pc) s else finish 1 (s.withIE b)

/-- DI `( -- )`, R130. -/
def execDi (s : State) : Result := writeIE false s

/-- EI `( -- )`, R131. -/
def execEi (s : State) : Result := writeIE true s

/-- SEC `( -- )`, R132: discards a pending COND (R33) and sets the SEC latch. -/
def execSec (s : State) : Result :=
  .next (((s.takeLatches .plain).withSecp true).advance 1)

/-- R@ `( -- x ) (R: x -- x )`, R133. -/
def execRFetch (s : State) : Result :=
  match s.Rs with
  | x :: _ => pushD x s fun t => finish 1 t
  | [] => .fault .rstackUnderflow

end Sys2Proof.Machine
end

