-- ==== Sys2Proof/Machine/Illegal.lean ====
section
/-! DEFINITION. The meanings of the 126 opcodes that are no instruction: the 74 the source lists as
illegal (30_encoding.md R96) and the 52 it leaves unassigned (R97). -/

namespace Sys2Proof.Machine

/-- An opcode byte that is not defined (60_exceptions.md R353): the trap, with every component of the
state as it was, the pending latches among them. The rows are constructors by DESIGN CHOICE 16. -/
def illegalOpcode (op : Byte) (s : State) : Result := raiseTrap (.illegalOpcode op) s

/-- Opcode 0x0F, listed illegal, R96. -/
def execIllegal0F (s : State) : Result := illegalOpcode 0x0F#8 s

/-- Opcode 0x1D, listed illegal, R96. -/
def execIllegal1D (s : State) : Result := illegalOpcode 0x1D#8 s

/-- Opcode 0x1F, listed illegal, R96. -/
def execIllegal1F (s : State) : Result := illegalOpcode 0x1F#8 s

/-- Opcode 0x2F, listed illegal, R96. -/
def execIllegal2F (s : State) : Result := illegalOpcode 0x2F#8 s

/-- Opcode 0x3D, listed illegal, R96. -/
def execIllegal3D (s : State) : Result := illegalOpcode 0x3D#8 s

/-- Opcode 0x3F, listed illegal, R96. -/
def execIllegal3F (s : State) : Result := illegalOpcode 0x3F#8 s

/-- Opcode 0x44, listed illegal, R96. -/
def execIllegal44 (s : State) : Result := illegalOpcode 0x44#8 s

/-- Opcode 0x45, listed illegal, R96. -/
def execIllegal45 (s : State) : Result := illegalOpcode 0x45#8 s

/-- Opcode 0x4F, listed illegal, R96. -/
def execIllegal4F (s : State) : Result := illegalOpcode 0x4F#8 s

/-- Opcode 0x54, listed illegal, R96. -/
def execIllegal54 (s : State) : Result := illegalOpcode 0x54#8 s

/-- Opcode 0x55, listed illegal, R96. -/
def execIllegal55 (s : State) : Result := illegalOpcode 0x55#8 s

/-- Opcode 0x5D, listed illegal, R96. -/
def execIllegal5D (s : State) : Result := illegalOpcode 0x5D#8 s

/-- Opcode 0x5F, listed illegal, R96. -/
def execIllegal5F (s : State) : Result := illegalOpcode 0x5F#8 s

/-- Opcode 0x64, listed illegal, R96. -/
def execIllegal64 (s : State) : Result := illegalOpcode 0x64#8 s

/-- Opcode 0x65, listed illegal, R96. -/
def execIllegal65 (s : State) : Result := illegalOpcode 0x65#8 s

/-- Opcode 0x6F, listed illegal, R96. -/
def execIllegal6F (s : State) : Result := illegalOpcode 0x6F#8 s

/-- Opcode 0x74, listed illegal, R96. -/
def execIllegal74 (s : State) : Result := illegalOpcode 0x74#8 s

/-- Opcode 0x75, listed illegal, R96. -/
def execIllegal75 (s : State) : Result := illegalOpcode 0x75#8 s

/-- Opcode 0x7D, listed illegal, R96. -/
def execIllegal7D (s : State) : Result := illegalOpcode 0x7D#8 s

/-- Opcode 0x7F, listed illegal, R96. -/
def execIllegal7F (s : State) : Result := illegalOpcode 0x7F#8 s

/-- Opcode 0x84, listed illegal, R96. -/
def execIllegal84 (s : State) : Result := illegalOpcode 0x84#8 s

/-- Opcode 0x85, listed illegal, R96. -/
def execIllegal85 (s : State) : Result := illegalOpcode 0x85#8 s

/-- Opcode 0x86, listed illegal, R96. -/
def execIllegal86 (s : State) : Result := illegalOpcode 0x86#8 s

/-- Opcode 0x87, listed illegal, R96. -/
def execIllegal87 (s : State) : Result := illegalOpcode 0x87#8 s

/-- Opcode 0x8B, listed illegal, R96. -/
def execIllegal8B (s : State) : Result := illegalOpcode 0x8B#8 s

/-- Opcode 0x8F, listed illegal, R96. -/
def execIllegal8F (s : State) : Result := illegalOpcode 0x8F#8 s

/-- Opcode 0x94, listed illegal, R96. -/
def execIllegal94 (s : State) : Result := illegalOpcode 0x94#8 s

/-- Opcode 0x95, listed illegal, R96. -/
def execIllegal95 (s : State) : Result := illegalOpcode 0x95#8 s

/-- Opcode 0x96, listed illegal, R96. -/
def execIllegal96 (s : State) : Result := illegalOpcode 0x96#8 s

/-- Opcode 0x97, listed illegal, R96. -/
def execIllegal97 (s : State) : Result := illegalOpcode 0x97#8 s

/-- Opcode 0x9B, listed illegal, R96. -/
def execIllegal9B (s : State) : Result := illegalOpcode 0x9B#8 s

/-- Opcode 0x9D, listed illegal, R96. -/
def execIllegal9D (s : State) : Result := illegalOpcode 0x9D#8 s

/-- Opcode 0x9F, listed illegal, R96. -/
def execIllegal9F (s : State) : Result := illegalOpcode 0x9F#8 s

/-- Opcode 0xA4, listed illegal, R96. -/
def execIllegalA4 (s : State) : Result := illegalOpcode 0xA4#8 s

/-- Opcode 0xA5, listed illegal, R96. -/
def execIllegalA5 (s : State) : Result := illegalOpcode 0xA5#8 s

/-- Opcode 0xA6, listed illegal, R96. -/
def execIllegalA6 (s : State) : Result := illegalOpcode 0xA6#8 s

/-- Opcode 0xA7, listed illegal, R96. -/
def execIllegalA7 (s : State) : Result := illegalOpcode 0xA7#8 s

/-- Opcode 0xAB, listed illegal, R96. -/
def execIllegalAB (s : State) : Result := illegalOpcode 0xAB#8 s

/-- Opcode 0xAF, listed illegal, R96. -/
def execIllegalAF (s : State) : Result := illegalOpcode 0xAF#8 s

/-- Opcode 0xB4, listed illegal, R96. -/
def execIllegalB4 (s : State) : Result := illegalOpcode 0xB4#8 s

/-- Opcode 0xB5, listed illegal, R96. -/
def execIllegalB5 (s : State) : Result := illegalOpcode 0xB5#8 s

/-- Opcode 0xB6, listed illegal, R96. -/
def execIllegalB6 (s : State) : Result := illegalOpcode 0xB6#8 s

/-- Opcode 0xB7, listed illegal, R96. -/
def execIllegalB7 (s : State) : Result := illegalOpcode 0xB7#8 s

/-- Opcode 0xBB, listed illegal, R96. -/
def execIllegalBB (s : State) : Result := illegalOpcode 0xBB#8 s

/-- Opcode 0xBD, listed illegal, R96. -/
def execIllegalBD (s : State) : Result := illegalOpcode 0xBD#8 s

/-- Opcode 0xBF, listed illegal, R96. -/
def execIllegalBF (s : State) : Result := illegalOpcode 0xBF#8 s

/-- Opcode 0xC4, listed illegal, R96. -/
def execIllegalC4 (s : State) : Result := illegalOpcode 0xC4#8 s

/-- Opcode 0xC5, listed illegal, R96. -/
def execIllegalC5 (s : State) : Result := illegalOpcode 0xC5#8 s

/-- Opcode 0xC6, listed illegal, R96. -/
def execIllegalC6 (s : State) : Result := illegalOpcode 0xC6#8 s

/-- Opcode 0xC7, listed illegal, R96. -/
def execIllegalC7 (s : State) : Result := illegalOpcode 0xC7#8 s

/-- Opcode 0xCB, listed illegal, R96. -/
def execIllegalCB (s : State) : Result := illegalOpcode 0xCB#8 s

/-- Opcode 0xCF, listed illegal, R96. -/
def execIllegalCF (s : State) : Result := illegalOpcode 0xCF#8 s

/-- Opcode 0xD4, listed illegal, R96. -/
def execIllegalD4 (s : State) : Result := illegalOpcode 0xD4#8 s

/-- Opcode 0xD5, listed illegal, R96. -/
def execIllegalD5 (s : State) : Result := illegalOpcode 0xD5#8 s

/-- Opcode 0xD6, listed illegal, R96. -/
def execIllegalD6 (s : State) : Result := illegalOpcode 0xD6#8 s

/-- Opcode 0xD7, listed illegal, R96. -/
def execIllegalD7 (s : State) : Result := illegalOpcode 0xD7#8 s

/-- Opcode 0xDB, listed illegal, R96. -/
def execIllegalDB (s : State) : Result := illegalOpcode 0xDB#8 s

/-- Opcode 0xDD, listed illegal, R96. -/
def execIllegalDD (s : State) : Result := illegalOpcode 0xDD#8 s

/-- Opcode 0xDF, listed illegal, R96. -/
def execIllegalDF (s : State) : Result := illegalOpcode 0xDF#8 s

/-- Opcode 0xE0, listed illegal, R96. -/
def execIllegalE0 (s : State) : Result := illegalOpcode 0xE0#8 s

/-- Opcode 0xE4, listed illegal, R96. -/
def execIllegalE4 (s : State) : Result := illegalOpcode 0xE4#8 s

/-- Opcode 0xE5, listed illegal, R96. -/
def execIllegalE5 (s : State) : Result := illegalOpcode 0xE5#8 s

/-- Opcode 0xE6, listed illegal, R96. -/
def execIllegalE6 (s : State) : Result := illegalOpcode 0xE6#8 s

/-- Opcode 0xE7, listed illegal, R96. -/
def execIllegalE7 (s : State) : Result := illegalOpcode 0xE7#8 s

/-- Opcode 0xEB, listed illegal, R96. -/
def execIllegalEB (s : State) : Result := illegalOpcode 0xEB#8 s

/-- Opcode 0xEF, listed illegal, R96. -/
def execIllegalEF (s : State) : Result := illegalOpcode 0xEF#8 s

/-- Opcode 0xF0, listed illegal, R96. -/
def execIllegalF0 (s : State) : Result := illegalOpcode 0xF0#8 s

/-- Opcode 0xF4, listed illegal, R96. -/
def execIllegalF4 (s : State) : Result := illegalOpcode 0xF4#8 s

/-- Opcode 0xF5, listed illegal, R96. -/
def execIllegalF5 (s : State) : Result := illegalOpcode 0xF5#8 s

/-- Opcode 0xF6, listed illegal, R96. -/
def execIllegalF6 (s : State) : Result := illegalOpcode 0xF6#8 s

/-- Opcode 0xF7, listed illegal, R96. -/
def execIllegalF7 (s : State) : Result := illegalOpcode 0xF7#8 s

/-- Opcode 0xFB, listed illegal, R96. -/
def execIllegalFB (s : State) : Result := illegalOpcode 0xFB#8 s

/-- Opcode 0xFD, listed illegal, R96. -/
def execIllegalFD (s : State) : Result := illegalOpcode 0xFD#8 s

/-- Opcode 0xFF, listed illegal, R96. -/
def execIllegalFF (s : State) : Result := illegalOpcode 0xFF#8 s

/-- Opcode 0x81, unassigned, R97. -/
def execUnassigned81 (s : State) : Result := illegalOpcode 0x81#8 s

/-- Opcode 0x88, unassigned, R97. -/
def execUnassigned88 (s : State) : Result := illegalOpcode 0x88#8 s

/-- Opcode 0x89, unassigned, R97. -/
def execUnassigned89 (s : State) : Result := illegalOpcode 0x89#8 s

/-- Opcode 0x8A, unassigned, R97. -/
def execUnassigned8A (s : State) : Result := illegalOpcode 0x8A#8 s

/-- Opcode 0x8C, unassigned, R97. -/
def execUnassigned8C (s : State) : Result := illegalOpcode 0x8C#8 s

/-- Opcode 0x8D, unassigned, R97. -/
def execUnassigned8D (s : State) : Result := illegalOpcode 0x8D#8 s

/-- Opcode 0x8E, unassigned, R97. -/
def execUnassigned8E (s : State) : Result := illegalOpcode 0x8E#8 s

/-- Opcode 0x91, unassigned, R97. -/
def execUnassigned91 (s : State) : Result := illegalOpcode 0x91#8 s

/-- Opcode 0x98, unassigned, R97. -/
def execUnassigned98 (s : State) : Result := illegalOpcode 0x98#8 s

/-- Opcode 0x99, unassigned, R97. -/
def execUnassigned99 (s : State) : Result := illegalOpcode 0x99#8 s

/-- Opcode 0x9A, unassigned, R97. -/
def execUnassigned9A (s : State) : Result := illegalOpcode 0x9A#8 s

/-- Opcode 0x9C, unassigned, R97. -/
def execUnassigned9C (s : State) : Result := illegalOpcode 0x9C#8 s

/-- Opcode 0x9E, unassigned, R97. -/
def execUnassigned9E (s : State) : Result := illegalOpcode 0x9E#8 s

/-- Opcode 0xA1, unassigned, R97. -/
def execUnassignedA1 (s : State) : Result := illegalOpcode 0xA1#8 s

/-- Opcode 0xA8, unassigned, R97. -/
def execUnassignedA8 (s : State) : Result := illegalOpcode 0xA8#8 s

/-- Opcode 0xA9, unassigned, R97. -/
def execUnassignedA9 (s : State) : Result := illegalOpcode 0xA9#8 s

/-- Opcode 0xAA, unassigned, R97. -/
def execUnassignedAA (s : State) : Result := illegalOpcode 0xAA#8 s

/-- Opcode 0xAC, unassigned, R97. -/
def execUnassignedAC (s : State) : Result := illegalOpcode 0xAC#8 s

/-- Opcode 0xAD, unassigned, R97. -/
def execUnassignedAD (s : State) : Result := illegalOpcode 0xAD#8 s

/-- Opcode 0xAE, unassigned, R97. -/
def execUnassignedAE (s : State) : Result := illegalOpcode 0xAE#8 s

/-- Opcode 0xB1, unassigned, R97. -/
def execUnassignedB1 (s : State) : Result := illegalOpcode 0xB1#8 s

/-- Opcode 0xB8, unassigned, R97. -/
def execUnassignedB8 (s : State) : Result := illegalOpcode 0xB8#8 s

/-- Opcode 0xB9, unassigned, R97. -/
def execUnassignedB9 (s : State) : Result := illegalOpcode 0xB9#8 s

/-- Opcode 0xBA, unassigned, R97. -/
def execUnassignedBA (s : State) : Result := illegalOpcode 0xBA#8 s

/-- Opcode 0xBC, unassigned, R97. -/
def execUnassignedBC (s : State) : Result := illegalOpcode 0xBC#8 s

/-- Opcode 0xBE, unassigned, R97. -/
def execUnassignedBE (s : State) : Result := illegalOpcode 0xBE#8 s

/-- Opcode 0xC1, unassigned, R97. -/
def execUnassignedC1 (s : State) : Result := illegalOpcode 0xC1#8 s

/-- Opcode 0xC8, unassigned, R97. -/
def execUnassignedC8 (s : State) : Result := illegalOpcode 0xC8#8 s

/-- Opcode 0xC9, unassigned, R97. -/
def execUnassignedC9 (s : State) : Result := illegalOpcode 0xC9#8 s

/-- Opcode 0xCA, unassigned, R97. -/
def execUnassignedCA (s : State) : Result := illegalOpcode 0xCA#8 s

/-- Opcode 0xCC, unassigned, R97. -/
def execUnassignedCC (s : State) : Result := illegalOpcode 0xCC#8 s

/-- Opcode 0xCD, unassigned, R97. -/
def execUnassignedCD (s : State) : Result := illegalOpcode 0xCD#8 s

/-- Opcode 0xCE, unassigned, R97. -/
def execUnassignedCE (s : State) : Result := illegalOpcode 0xCE#8 s

/-- Opcode 0xD1, unassigned, R97. -/
def execUnassignedD1 (s : State) : Result := illegalOpcode 0xD1#8 s

/-- Opcode 0xD8, unassigned, R97. -/
def execUnassignedD8 (s : State) : Result := illegalOpcode 0xD8#8 s

/-- Opcode 0xD9, unassigned, R97. -/
def execUnassignedD9 (s : State) : Result := illegalOpcode 0xD9#8 s

/-- Opcode 0xDA, unassigned, R97. -/
def execUnassignedDA (s : State) : Result := illegalOpcode 0xDA#8 s

/-- Opcode 0xDC, unassigned, R97. -/
def execUnassignedDC (s : State) : Result := illegalOpcode 0xDC#8 s

/-- Opcode 0xDE, unassigned, R97. -/
def execUnassignedDE (s : State) : Result := illegalOpcode 0xDE#8 s

/-- Opcode 0xE1, unassigned, R97. -/
def execUnassignedE1 (s : State) : Result := illegalOpcode 0xE1#8 s

/-- Opcode 0xE8, unassigned, R97. -/
def execUnassignedE8 (s : State) : Result := illegalOpcode 0xE8#8 s

/-- Opcode 0xE9, unassigned, R97. -/
def execUnassignedE9 (s : State) : Result := illegalOpcode 0xE9#8 s

/-- Opcode 0xEA, unassigned, R97. -/
def execUnassignedEA (s : State) : Result := illegalOpcode 0xEA#8 s

/-- Opcode 0xEC, unassigned, R97. -/
def execUnassignedEC (s : State) : Result := illegalOpcode 0xEC#8 s

/-- Opcode 0xED, unassigned, R97. -/
def execUnassignedED (s : State) : Result := illegalOpcode 0xED#8 s

/-- Opcode 0xEE, unassigned, R97. -/
def execUnassignedEE (s : State) : Result := illegalOpcode 0xEE#8 s

/-- Opcode 0xF1, unassigned, R97. -/
def execUnassignedF1 (s : State) : Result := illegalOpcode 0xF1#8 s

/-- Opcode 0xF8, unassigned, R97. -/
def execUnassignedF8 (s : State) : Result := illegalOpcode 0xF8#8 s

/-- Opcode 0xF9, unassigned, R97. -/
def execUnassignedF9 (s : State) : Result := illegalOpcode 0xF9#8 s

/-- Opcode 0xFA, unassigned, R97. -/
def execUnassignedFA (s : State) : Result := illegalOpcode 0xFA#8 s

/-- Opcode 0xFC, unassigned, R97. -/
def execUnassignedFC (s : State) : Result := illegalOpcode 0xFC#8 s

/-- Opcode 0xFE, unassigned, R97. -/
def execUnassignedFE (s : State) : Result := illegalOpcode 0xFE#8 s

end Sys2Proof.Machine
end

