-- ==== Sys2Proof/Machine/Literals.lean ====
section
/-! DEFINITION. The meanings of group 1, the literals (41_literals.md). -/

namespace Sys2Proof.Machine

/-- The literal group (R150): push the immediate, already extended to a cell, and pass the opcode
and its `n` immediate bytes. -/
def literal (n : Nat) (v : Cell) (s : State) : Result := pushD v s fun t => finish (1 + n) t

/-- ULIT8 `( -- u )`, R151. -/
def execUlit8 (imm : BitVec 8) (s : State) : Result := literal 1 (imm.zeroExtend 64) s

/-- SLIT8 `( -- n )`, R152. -/
def execSlit8 (imm : BitVec 8) (s : State) : Result := literal 1 (imm.signExtend 64) s

/-- ULIT16 `( -- u )`, R153. -/
def execUlit16 (imm : BitVec 16) (s : State) : Result := literal 2 (imm.zeroExtend 64) s

/-- SLIT16 `( -- n )`, R154. -/
def execSlit16 (imm : BitVec 16) (s : State) : Result := literal 2 (imm.signExtend 64) s

/-- ULIT32 `( -- u )`, R155. -/
def execUlit32 (imm : BitVec 32) (s : State) : Result := literal 4 (imm.zeroExtend 64) s

/-- SLIT32 `( -- n )`, R156. -/
def execSlit32 (imm : BitVec 32) (s : State) : Result := literal 4 (imm.signExtend 64) s

/-- ULIT64 `( -- x )`, R157. -/
def execUlit64 (imm : BitVec 64) (s : State) : Result := literal 8 imm s

/-- SLIT64 `( -- x )`, R158. -/
def execSlit64 (imm : BitVec 64) (s : State) : Result := literal 8 imm s

end Sys2Proof.Machine
end

