-- ==== Sys2Proof/Machine/LoadsStores.lean ====
section
/-! DEFINITION. The meanings of groups 13 and 14, stores and loads (49_loads_stores.md). -/

namespace Sys2Proof.Machine

/-- ST<size> (R326): pop the address and the datum and store the datum's `n` low bytes. A trap of
MemWrite leaves both on the stack; too few cells take precedence over it. -/
def storeCells (n : Nat) (s : State) : Result :=
  match s.D with
  | t :: u :: rest =>
    let o := s.storeOperands t u
    memWrite s o.1 n o.2.toNat fun m => finish 1 (m.withD rest)
  | _ => .fault .dstackUnderflow

/-- ULD<size> and SLD<size> (R335): the address is replaced by the loaded, extended datum. A trap of
MemRead leaves the address on the stack. -/
def loadCell (signed : Bool) (n : Nat) (s : State) : Result :=
  match s.D with
  | a :: rest => memRead s a n fun v => finish 1 (s.withD (extendLoaded signed n v :: rest))
  | [] => .fault .dstackUnderflow

/-- ST8 `( x a -- )`, R327. -/
def execSt8 (s : State) : Result := storeCells 1 s

/-- ST16 `( x a -- )`, R328. -/
def execSt16 (s : State) : Result := storeCells 2 s

/-- ST32 `( x a -- )`, R329. -/
def execSt32 (s : State) : Result := storeCells 4 s

/-- ST64 `( x a -- )`, R330. -/
def execSt64 (s : State) : Result := storeCells 8 s

/-- ULD8 `( a -- u )`, R336. -/
def execUld8 (s : State) : Result := loadCell false 1 s

/-- SLD8 `( a -- n )`, R337. -/
def execSld8 (s : State) : Result := loadCell true 1 s

/-- ULD16 `( a -- u )`, R338. -/
def execUld16 (s : State) : Result := loadCell false 2 s

/-- SLD16 `( a -- n )`, R339. -/
def execSld16 (s : State) : Result := loadCell true 2 s

/-- ULD32 `( a -- u )`, R340. -/
def execUld32 (s : State) : Result := loadCell false 4 s

/-- SLD32 `( a -- n )`, R341. -/
def execSld32 (s : State) : Result := loadCell true 4 s

/-- ULD64 `( a -- x )`, R342. -/
def execUld64 (s : State) : Result := loadCell false 8 s

/-- SLD64 `( a -- x )`, R343. -/
def execSld64 (s : State) : Result := loadCell true 8 s

end Sys2Proof.Machine
end

