-- ==== Sys2Proof/Machine/Pea.lean ====
section
/-! DEFINITION. The meanings of group 12, PC-relative effective addresses (48_pea.md). -/

namespace Sys2Proof.Machine

/-- PEAR<size> (R310, S = 0): push the effective address on the return stack. -/
def addressToR (n : Nat) (disp : Cell) (s : State) : Result :=
  pushR (s.relative n disp) s fun t => finish (1 + n) t

/-- PEAD<size> (R310, S = 1): push the effective address on the data stack. -/
def addressToD (n : Nat) (disp : Cell) (s : State) : Result :=
  pushD (s.relative n disp) s fun t => finish (1 + n) t

/-- PEAR8 `( -- ) (R: -- a )`, R311. -/
def execPear8 (imm : BitVec 8) (s : State) : Result := addressToR 1 (imm.signExtend 64) s

/-- PEAD8 `( -- a )`, R312. -/
def execPead8 (imm : BitVec 8) (s : State) : Result := addressToD 1 (imm.signExtend 64) s

/-- PEAR16 `( -- ) (R: -- a )`, R313. -/
def execPear16 (imm : BitVec 16) (s : State) : Result := addressToR 2 (imm.signExtend 64) s

/-- PEAD16 `( -- a )`, R314. -/
def execPead16 (imm : BitVec 16) (s : State) : Result := addressToD 2 (imm.signExtend 64) s

/-- PEAR32 `( -- ) (R: -- a )`, R315. -/
def execPear32 (imm : BitVec 32) (s : State) : Result := addressToR 4 (imm.signExtend 64) s

/-- PEAD32 `( -- a )`, R316. -/
def execPead32 (imm : BitVec 32) (s : State) : Result := addressToD 4 (imm.signExtend 64) s

/-- PEAR64 `( -- ) (R: -- a )`, R317. -/
def execPear64 (imm : BitVec 64) (s : State) : Result := addressToR 8 imm s

/-- PEAD64 `( -- a )`, R318. -/
def execPead64 (imm : BitVec 64) (s : State) : Result := addressToD 8 imm s

end Sys2Proof.Machine
end

