-- ==== Sys2Proof/Machine/Shifts.lean ====
section
/-! DEFINITION. The meanings of group 11, shifts, rotations and PERMUTE (47_shifts.md). -/

namespace Sys2Proof.Machine

/-- A shift or rotate (R290): the count is the top cell and the operand the second; both are popped. -/
def shift (op : ShiftOp) (s : State) : Result :=
  binary .popped (fun n cnt carry => shiftResult s.config.shiftFn op n cnt carry) s

/-- LSL `( n cnt -- n' )`, R293. -/
def execLsl (s : State) : Result := shift .lsl s

/-- LSR `( n cnt -- n' )`, R294. -/
def execLsr (s : State) : Result := shift .lsr s

/-- ASR `( n cnt -- n' )`, R295. -/
def execAsr (s : State) : Result := shift .asr s

/-- PERMUTE `( n idx -- n' )`, R296. -/
def execPermute (s : State) : Result := binary .popped (fun n idx carry => (permute n idx, carry)) s

/-- RL `( n cnt -- n' )`, R297. -/
def execRl (s : State) : Result := shift .rl s

/-- RLC `( n cnt -- n' )`, R298. -/
def execRlc (s : State) : Result := shift .rlc s

/-- RR `( n cnt -- n' )`, R299. -/
def execRr (s : State) : Result := shift .rr s

/-- RRC `( n cnt -- n' )`, R300. -/
def execRrc (s : State) : Result := shift .rrc s

end Sys2Proof.Machine
end

