-- ==== Sys2Proof/Machine/Dispatch.lean ====
section
/-! DEFINITION. The dispatch: one arm per constructor of Instr, each one call of its meaning. -/

namespace Sys2Proof.Machine

def exec (i : Instr) (s : State) : Host.Outcome State Fault Refusal :=
  match i with
  -- Group 0, miscellaneous (R83)
  | .brk => Sys2Proof.Machine.execBrk s
  | .sc => Sys2Proof.Machine.execSc s
  | .pop => Sys2Proof.Machine.execPop s
  | .push => Sys2Proof.Machine.execPush s
  | .jmpdi => Sys2Proof.Machine.execJmpdi s
  | .calldi => Sys2Proof.Machine.execCalldi s
  | .ret => Sys2Proof.Machine.execRet s
  | .switch => Sys2Proof.Machine.execSwitch s
  | .crStore => Sys2Proof.Machine.execCrStore s
  | .crFetch => Sys2Proof.Machine.execCrFetch s
  | .di => Sys2Proof.Machine.execDi s
  | .ei => Sys2Proof.Machine.execEi s
  | .sec => Sys2Proof.Machine.execSec s
  | .rFetch => Sys2Proof.Machine.execRFetch s
  -- Group 1, literals (R85)
  | .ulit8 imm => Sys2Proof.Machine.execUlit8 imm s
  | .slit8 imm => Sys2Proof.Machine.execSlit8 imm s
  | .ulit16 imm => Sys2Proof.Machine.execUlit16 imm s
  | .slit16 imm => Sys2Proof.Machine.execSlit16 imm s
  | .ulit32 imm => Sys2Proof.Machine.execUlit32 imm s
  | .slit32 imm => Sys2Proof.Machine.execSlit32 imm s
  | .ulit64 imm => Sys2Proof.Machine.execUlit64 imm s
  | .slit64 imm => Sys2Proof.Machine.execSlit64 imm s
  -- Groups 2 and 3, BOOL2 (R86)
  | .zero2 => Sys2Proof.Machine.execZero2 s
  | .twodropZero => Sys2Proof.Machine.execTwodropZero s
  | .twodupAnd => Sys2Proof.Machine.execTwodupAnd s
  | .and => Sys2Proof.Machine.execAnd s
  | .twodupBic => Sys2Proof.Machine.execTwodupBic s
  | .bic => Sys2Proof.Machine.execBic s
  | .over2 => Sys2Proof.Machine.execOver2 s
  | .drop => Sys2Proof.Machine.execDrop s
  | .twodupSwapBic => Sys2Proof.Machine.execTwodupSwapBic s
  | .swapBic => Sys2Proof.Machine.execSwapBic s
  | .dup2 => Sys2Proof.Machine.execDup2 s
  | .nip => Sys2Proof.Machine.execNip s
  | .twodupXor => Sys2Proof.Machine.execTwodupXor s
  | .xor => Sys2Proof.Machine.execXor s
  | .twodupOr => Sys2Proof.Machine.execTwodupOr s
  | .or => Sys2Proof.Machine.execOr s
  | .twodupNor => Sys2Proof.Machine.execTwodupNor s
  | .nor => Sys2Proof.Machine.execNor s
  | .twodupXnor => Sys2Proof.Machine.execTwodupXnor s
  | .xnor => Sys2Proof.Machine.execXnor s
  | .dupInvert2 => Sys2Proof.Machine.execDupInvert2 s
  | .invertNip => Sys2Proof.Machine.execInvertNip s
  | .twodupInvertOr => Sys2Proof.Machine.execTwodupInvertOr s
  | .invertOr => Sys2Proof.Machine.execInvertOr s
  | .overInvert => Sys2Proof.Machine.execOverInvert s
  | .dropInvert => Sys2Proof.Machine.execDropInvert s
  | .twodupSwapInvertOr => Sys2Proof.Machine.execTwodupSwapInvertOr s
  | .swapInvertOr => Sys2Proof.Machine.execSwapInvertOr s
  | .twodupNand => Sys2Proof.Machine.execTwodupNand s
  | .nand => Sys2Proof.Machine.execNand s
  | .negOne2 => Sys2Proof.Machine.execNegOne2 s
  | .twodropNegOne => Sys2Proof.Machine.execTwodropNegOne s
  -- Groups 4 and 5, BOOL1 (R87)
  | .zero1 => Sys2Proof.Machine.execZero1 s
  | .dropZero => Sys2Proof.Machine.execDropZero s
  | .dup1 => Sys2Proof.Machine.execDup1 s
  | .nop => Sys2Proof.Machine.execNop s
  | .dupInvert1 => Sys2Proof.Machine.execDupInvert1 s
  | .invert => Sys2Proof.Machine.execInvert s
  | .negOne1 => Sys2Proof.Machine.execNegOne1 s
  | .dropNegOne => Sys2Proof.Machine.execDropNegOne s
  -- Groups 6 and 7, ADDSUB2 (R88)
  | .twodupAdd => Sys2Proof.Machine.execTwodupAdd s
  | .add => Sys2Proof.Machine.execAdd s
  | .twodupAddPlus1 => Sys2Proof.Machine.execTwodupAddPlus1 s
  | .addPlus1 => Sys2Proof.Machine.execAddPlus1 s
  | .twodupAdc => Sys2Proof.Machine.execTwodupAdc s
  | .adc => Sys2Proof.Machine.execAdc s
  | .twodupAdcMinus1 => Sys2Proof.Machine.execTwodupAdcMinus1 s
  | .adcMinus1 => Sys2Proof.Machine.execAdcMinus1 s
  | .twodupSubMinus1 => Sys2Proof.Machine.execTwodupSubMinus1 s
  | .subMinus1 => Sys2Proof.Machine.execSubMinus1 s
  | .twodupSub => Sys2Proof.Machine.execTwodupSub s
  | .sub => Sys2Proof.Machine.execSub s
  | .twodupSbc => Sys2Proof.Machine.execTwodupSbc s
  | .sbc => Sys2Proof.Machine.execSbc s
  | .twodupSbcMinus1 => Sys2Proof.Machine.execTwodupSbcMinus1 s
  | .sbcMinus1 => Sys2Proof.Machine.execSbcMinus1 s
  -- Groups 8 and 9, COND (R89)
  | .condAlways => Sys2Proof.Machine.execCondAlways s
  | .condNever => Sys2Proof.Machine.execCondNever s
  | .condC0 => Sys2Proof.Machine.execCondC0 s
  | .condC1 => Sys2Proof.Machine.execCondC1 s
  | .condNz => Sys2Proof.Machine.execCondNz s
  | .condZ => Sys2Proof.Machine.execCondZ s
  | .condNzC0 => Sys2Proof.Machine.execCondNzC0 s
  | .condZC1 => Sys2Proof.Machine.execCondZC1 s
  | .condGe => Sys2Proof.Machine.execCondGe s
  | .condLt => Sys2Proof.Machine.execCondLt s
  | .condGeC0 => Sys2Proof.Machine.execCondGeC0 s
  | .condLtC1 => Sys2Proof.Machine.execCondLtC1 s
  | .condGt => Sys2Proof.Machine.execCondGt s
  | .condLe => Sys2Proof.Machine.execCondLe s
  | .condGtC0 => Sys2Proof.Machine.execCondGtC0 s
  | .condLeC1 => Sys2Proof.Machine.execCondLeC1 s
  -- Group 10, direct jumps and calls (R90)
  | .jmp8 imm => Sys2Proof.Machine.execJmp8 imm s
  | .call8 imm => Sys2Proof.Machine.execCall8 imm s
  | .jmp16 imm => Sys2Proof.Machine.execJmp16 imm s
  | .call16 imm => Sys2Proof.Machine.execCall16 imm s
  | .jmp32 imm => Sys2Proof.Machine.execJmp32 imm s
  | .call32 imm => Sys2Proof.Machine.execCall32 imm s
  | .jmp64 imm => Sys2Proof.Machine.execJmp64 imm s
  | .call64 imm => Sys2Proof.Machine.execCall64 imm s
  -- Group 11, shifts, rotations and PERMUTE (R91)
  | .lsl => Sys2Proof.Machine.execLsl s
  | .lsr => Sys2Proof.Machine.execLsr s
  | .asr => Sys2Proof.Machine.execAsr s
  | .permute => Sys2Proof.Machine.execPermute s
  | .rl => Sys2Proof.Machine.execRl s
  | .rlc => Sys2Proof.Machine.execRlc s
  | .rr => Sys2Proof.Machine.execRr s
  | .rrc => Sys2Proof.Machine.execRrc s
  -- Group 12, PC-relative effective addresses (R92)
  | .pear8 imm => Sys2Proof.Machine.execPear8 imm s
  | .pead8 imm => Sys2Proof.Machine.execPead8 imm s
  | .pear16 imm => Sys2Proof.Machine.execPear16 imm s
  | .pead16 imm => Sys2Proof.Machine.execPead16 imm s
  | .pear32 imm => Sys2Proof.Machine.execPear32 imm s
  | .pead32 imm => Sys2Proof.Machine.execPead32 imm s
  | .pear64 imm => Sys2Proof.Machine.execPear64 imm s
  | .pead64 imm => Sys2Proof.Machine.execPead64 imm s
  -- Group 13, stores (R93)
  | .st8 => Sys2Proof.Machine.execSt8 s
  | .st16 => Sys2Proof.Machine.execSt16 s
  | .st32 => Sys2Proof.Machine.execSt32 s
  | .st64 => Sys2Proof.Machine.execSt64 s
  -- Group 14, loads (R94)
  | .uld8 => Sys2Proof.Machine.execUld8 s
  | .sld8 => Sys2Proof.Machine.execSld8 s
  | .uld16 => Sys2Proof.Machine.execUld16 s
  | .sld16 => Sys2Proof.Machine.execSld16 s
  | .uld32 => Sys2Proof.Machine.execUld32 s
  | .sld32 => Sys2Proof.Machine.execSld32 s
  | .uld64 => Sys2Proof.Machine.execUld64 s
  | .sld64 => Sys2Proof.Machine.execSld64 s
  -- The 74 listed illegal opcodes (R96)
  | .illegal0F => Sys2Proof.Machine.execIllegal0F s
  | .illegal1D => Sys2Proof.Machine.execIllegal1D s
  | .illegal1F => Sys2Proof.Machine.execIllegal1F s
  | .illegal2F => Sys2Proof.Machine.execIllegal2F s
  | .illegal3D => Sys2Proof.Machine.execIllegal3D s
  | .illegal3F => Sys2Proof.Machine.execIllegal3F s
  | .illegal44 => Sys2Proof.Machine.execIllegal44 s
  | .illegal45 => Sys2Proof.Machine.execIllegal45 s
  | .illegal4F => Sys2Proof.Machine.execIllegal4F s
  | .illegal54 => Sys2Proof.Machine.execIllegal54 s
  | .illegal55 => Sys2Proof.Machine.execIllegal55 s
  | .illegal5D => Sys2Proof.Machine.execIllegal5D s
  | .illegal5F => Sys2Proof.Machine.execIllegal5F s
  | .illegal64 => Sys2Proof.Machine.execIllegal64 s
  | .illegal65 => Sys2Proof.Machine.execIllegal65 s
  | .illegal6F => Sys2Proof.Machine.execIllegal6F s
  | .illegal74 => Sys2Proof.Machine.execIllegal74 s
  | .illegal75 => Sys2Proof.Machine.execIllegal75 s
  | .illegal7D => Sys2Proof.Machine.execIllegal7D s
  | .illegal7F => Sys2Proof.Machine.execIllegal7F s
  | .illegal84 => Sys2Proof.Machine.execIllegal84 s
  | .illegal85 => Sys2Proof.Machine.execIllegal85 s
  | .illegal86 => Sys2Proof.Machine.execIllegal86 s
  | .illegal87 => Sys2Proof.Machine.execIllegal87 s
  | .illegal8B => Sys2Proof.Machine.execIllegal8B s
  | .illegal8F => Sys2Proof.Machine.execIllegal8F s
  | .illegal94 => Sys2Proof.Machine.execIllegal94 s
  | .illegal95 => Sys2Proof.Machine.execIllegal95 s
  | .illegal96 => Sys2Proof.Machine.execIllegal96 s
  | .illegal97 => Sys2Proof.Machine.execIllegal97 s
  | .illegal9B => Sys2Proof.Machine.execIllegal9B s
  | .illegal9D => Sys2Proof.Machine.execIllegal9D s
  | .illegal9F => Sys2Proof.Machine.execIllegal9F s
  | .illegalA4 => Sys2Proof.Machine.execIllegalA4 s
  | .illegalA5 => Sys2Proof.Machine.execIllegalA5 s
  | .illegalA6 => Sys2Proof.Machine.execIllegalA6 s
  | .illegalA7 => Sys2Proof.Machine.execIllegalA7 s
  | .illegalAB => Sys2Proof.Machine.execIllegalAB s
  | .illegalAF => Sys2Proof.Machine.execIllegalAF s
  | .illegalB4 => Sys2Proof.Machine.execIllegalB4 s
  | .illegalB5 => Sys2Proof.Machine.execIllegalB5 s
  | .illegalB6 => Sys2Proof.Machine.execIllegalB6 s
  | .illegalB7 => Sys2Proof.Machine.execIllegalB7 s
  | .illegalBB => Sys2Proof.Machine.execIllegalBB s
  | .illegalBD => Sys2Proof.Machine.execIllegalBD s
  | .illegalBF => Sys2Proof.Machine.execIllegalBF s
  | .illegalC4 => Sys2Proof.Machine.execIllegalC4 s
  | .illegalC5 => Sys2Proof.Machine.execIllegalC5 s
  | .illegalC6 => Sys2Proof.Machine.execIllegalC6 s
  | .illegalC7 => Sys2Proof.Machine.execIllegalC7 s
  | .illegalCB => Sys2Proof.Machine.execIllegalCB s
  | .illegalCF => Sys2Proof.Machine.execIllegalCF s
  | .illegalD4 => Sys2Proof.Machine.execIllegalD4 s
  | .illegalD5 => Sys2Proof.Machine.execIllegalD5 s
  | .illegalD6 => Sys2Proof.Machine.execIllegalD6 s
  | .illegalD7 => Sys2Proof.Machine.execIllegalD7 s
  | .illegalDB => Sys2Proof.Machine.execIllegalDB s
  | .illegalDD => Sys2Proof.Machine.execIllegalDD s
  | .illegalDF => Sys2Proof.Machine.execIllegalDF s
  | .illegalE0 => Sys2Proof.Machine.execIllegalE0 s
  | .illegalE4 => Sys2Proof.Machine.execIllegalE4 s
  | .illegalE5 => Sys2Proof.Machine.execIllegalE5 s
  | .illegalE6 => Sys2Proof.Machine.execIllegalE6 s
  | .illegalE7 => Sys2Proof.Machine.execIllegalE7 s
  | .illegalEB => Sys2Proof.Machine.execIllegalEB s
  | .illegalEF => Sys2Proof.Machine.execIllegalEF s
  | .illegalF0 => Sys2Proof.Machine.execIllegalF0 s
  | .illegalF4 => Sys2Proof.Machine.execIllegalF4 s
  | .illegalF5 => Sys2Proof.Machine.execIllegalF5 s
  | .illegalF6 => Sys2Proof.Machine.execIllegalF6 s
  | .illegalF7 => Sys2Proof.Machine.execIllegalF7 s
  | .illegalFB => Sys2Proof.Machine.execIllegalFB s
  | .illegalFD => Sys2Proof.Machine.execIllegalFD s
  | .illegalFF => Sys2Proof.Machine.execIllegalFF s
  -- The 52 unassigned opcodes (R97)
  | .unassigned81 => Sys2Proof.Machine.execUnassigned81 s
  | .unassigned88 => Sys2Proof.Machine.execUnassigned88 s
  | .unassigned89 => Sys2Proof.Machine.execUnassigned89 s
  | .unassigned8A => Sys2Proof.Machine.execUnassigned8A s
  | .unassigned8C => Sys2Proof.Machine.execUnassigned8C s
  | .unassigned8D => Sys2Proof.Machine.execUnassigned8D s
  | .unassigned8E => Sys2Proof.Machine.execUnassigned8E s
  | .unassigned91 => Sys2Proof.Machine.execUnassigned91 s
  | .unassigned98 => Sys2Proof.Machine.execUnassigned98 s
  | .unassigned99 => Sys2Proof.Machine.execUnassigned99 s
  | .unassigned9A => Sys2Proof.Machine.execUnassigned9A s
  | .unassigned9C => Sys2Proof.Machine.execUnassigned9C s
  | .unassigned9E => Sys2Proof.Machine.execUnassigned9E s
  | .unassignedA1 => Sys2Proof.Machine.execUnassignedA1 s
  | .unassignedA8 => Sys2Proof.Machine.execUnassignedA8 s
  | .unassignedA9 => Sys2Proof.Machine.execUnassignedA9 s
  | .unassignedAA => Sys2Proof.Machine.execUnassignedAA s
  | .unassignedAC => Sys2Proof.Machine.execUnassignedAC s
  | .unassignedAD => Sys2Proof.Machine.execUnassignedAD s
  | .unassignedAE => Sys2Proof.Machine.execUnassignedAE s
  | .unassignedB1 => Sys2Proof.Machine.execUnassignedB1 s
  | .unassignedB8 => Sys2Proof.Machine.execUnassignedB8 s
  | .unassignedB9 => Sys2Proof.Machine.execUnassignedB9 s
  | .unassignedBA => Sys2Proof.Machine.execUnassignedBA s
  | .unassignedBC => Sys2Proof.Machine.execUnassignedBC s
  | .unassignedBE => Sys2Proof.Machine.execUnassignedBE s
  | .unassignedC1 => Sys2Proof.Machine.execUnassignedC1 s
  | .unassignedC8 => Sys2Proof.Machine.execUnassignedC8 s
  | .unassignedC9 => Sys2Proof.Machine.execUnassignedC9 s
  | .unassignedCA => Sys2Proof.Machine.execUnassignedCA s
  | .unassignedCC => Sys2Proof.Machine.execUnassignedCC s
  | .unassignedCD => Sys2Proof.Machine.execUnassignedCD s
  | .unassignedCE => Sys2Proof.Machine.execUnassignedCE s
  | .unassignedD1 => Sys2Proof.Machine.execUnassignedD1 s
  | .unassignedD8 => Sys2Proof.Machine.execUnassignedD8 s
  | .unassignedD9 => Sys2Proof.Machine.execUnassignedD9 s
  | .unassignedDA => Sys2Proof.Machine.execUnassignedDA s
  | .unassignedDC => Sys2Proof.Machine.execUnassignedDC s
  | .unassignedDE => Sys2Proof.Machine.execUnassignedDE s
  | .unassignedE1 => Sys2Proof.Machine.execUnassignedE1 s
  | .unassignedE8 => Sys2Proof.Machine.execUnassignedE8 s
  | .unassignedE9 => Sys2Proof.Machine.execUnassignedE9 s
  | .unassignedEA => Sys2Proof.Machine.execUnassignedEA s
  | .unassignedEC => Sys2Proof.Machine.execUnassignedEC s
  | .unassignedED => Sys2Proof.Machine.execUnassignedED s
  | .unassignedEE => Sys2Proof.Machine.execUnassignedEE s
  | .unassignedF1 => Sys2Proof.Machine.execUnassignedF1 s
  | .unassignedF8 => Sys2Proof.Machine.execUnassignedF8 s
  | .unassignedF9 => Sys2Proof.Machine.execUnassignedF9 s
  | .unassignedFA => Sys2Proof.Machine.execUnassignedFA s
  | .unassignedFC => Sys2Proof.Machine.execUnassignedFC s
  | .unassignedFE => Sys2Proof.Machine.execUnassignedFE s

end Sys2Proof.Machine
end

