-- ==== Sys2Proof/Machine/Fetch.lean ====
section
/-! DEFINITION. Fetching an instruction (10_state.md R41, 20_memory.md R55) and placing one where the
next fetch reads it. -/

namespace Sys2Proof.Machine

/-- Fetch and decode one instruction, and hand it to `k` (R41, R361). The opcode byte is fetched first;
the immediate is fetched at `pc + 1` only when the opcode has one, so an illegal opcode is
reported without a fetch of the bytes after it (R353). -/
def fetchInstr (s : State) (k : Instr → Result) : Result :=
  fetch s s.pc 1 fun v =>
    let op := BitVec.ofNat 8 v
    if immBytes op = 0 then k (decodeParts op 0)
    else fetch s (s.pc + 1) (immBytes op) fun imm => k (decodeParts op imm)

/-- Nine one-byte regions, from `pc` on. -/
def fetchRegions (pc : Cell) : List Region :=
  (List.range 9).map fun i => ⟨byteAddr pc i, 1⟩

/-- Every byte of the nine at `pc` may be fetched, one by one, as an opcode and an immediate are. -/
def State.fetchable (s : State) : Bool :=
  s.access s.pc 1 .fetch &&
    [1, 2, 4, 8].all fun n => s.access (s.pc + 1) n .fetch

/-- Make the nine bytes at `pc` fetchable: nothing changes where they are already; otherwise they are
added to MEM_POP and the platform's protection is off. -/
def State.permitFetch (s : State) : State :=
  if s.fetchable then s
  else s.withConfig { s.config with memPop := fetchRegions s.pc ++ s.config.memPop, protection := .none }

/-- The bytes `bs` in memory at `pc`, as part of the launch image: they do not count as stored by the
program, and no trap is pending. -/
def State.placeBytes (s : State) (bs : List Byte) : State :=
  ((s.withMem (s.mem.writeBytes s.pc bs)).withTrap none).withStored
    (s.stored.filter fun a => !((List.range 9).map (byteAddr s.pc)).contains a)

end Sys2Proof.Machine
end

