-- ==== Sys2Proof/Machine/Step.lean ====
section
/-! DEFINITION. One step of the machine (10_state.md R41), and the placing of one instruction for it. -/

namespace Sys2Proof.Machine

/-- One step: the environment's answer to the trap the last step handed over (R352), or else one
instruction fetched and executed (R41). -/
def step (s : State) : Host.Outcome State Fault Refusal :=
  match s.trap with
  | some t => answerTrap t s
  | none => fetchInstr s fun i => exec i s

/-- The state with the opcode-table word `w` of `nbits` bits, zeros after it, at `pc`, so that the
next step fetches and runs it: the load from outside by which a program comes to run (DESIGN CHOICE 9). -/
def State.withFetchWord (s : State) (nbits w : Nat) : State :=
  State.placeBytes s.permitFetch (wordBytes nbits w)

end Sys2Proof.Machine
end

