-- ==== Sys2Proof/Safety.lean ====
section
/-! DEFINITION. The terms statements are made in: the invariant of the machine's states, which faults
are the `Undefined` of the spec, and what a run that avoids them is. -/

namespace Sys2Proof

namespace Machine

/-- A stack holds no more cells than its capacity (10_state.md R21, R22). -/
def fits (depth : Option Nat) (xs : List Cell) : Bool :=
  match depth with
  | none => true
  | some d => decide (xs.length ≤ d)

/-- The invariant: memory in canonical form, both stacks within their capacity, and the record of
stored addresses strictly rising and of 64-bit addresses. -/
def State.inv (s : State) : Bool :=
  s.mem.wf && fits s.config.dsDepth s.D && fits s.config.rsDepth s.Rs && risingAbove 0 s.stored

/-- The faults that are `Undefined(REASON)` (60_exceptions.md R358): a program must be shown never to
reach one. -/
def Fault.isUndefined : Fault → Bool
  | .dstackUnderflow => true
  | .dstackOverflow => true
  | .rstackUnderflow => true
  | .rstackOverflow => true
  | .fetchOfWrittenByte => true
  | .halted _ => false

/-- An answer the spec defines: a next state, or the end of a run by a trap (R352, R358, R389). -/
def Defined : Result → Prop
  | .next _ => True
  | .fault r => r.isUndefined = false
  | .refused _ => False

/-- The first `k` steps from a state meet no `Undefined` (R358). -/
def SafeFor : Nat → State → Prop
  | 0, _ => True
  | k + 1, s => Defined (step s) ∧ ∀ t, step s = .next t → SafeFor k t

/-! ### The states instructions leave, written out field by field -/

/-- After an instruction of `len` bytes that reads neither latch (R12, R26, R33): the stacks given,
`pc` past the instruction, both latches taken (kept, under PREFIX_PERSIST), nothing else changed. -/
def State.after (s : State) (len : Nat) (d rs : List Cell) : State :=
  { s with
    D := d
    Rs := rs
    pc := s.pc + BitVec.ofNat 64 len
    condp := if s.config.prefixPersist then s.condp else none
    secp := if s.config.prefixPersist then s.secp else false }

/-- After one of the 14 instructions that read `cond` (R31, R33): the stacks and the `pc` given, the
COND latch taken, the SEC latch taken (kept, under PREFIX_PERSIST), nothing else changed. -/
def State.transferred (s : State) (target : Cell) (d rs : List Cell) : State :=
  { s with
    D := d
    Rs := rs
    pc := target
    condp := none
    secp := if s.config.prefixPersist then s.secp else false }

/-- The state CRRead and CRWrite are asked in (40_group0.md R128, R129): the operands popped, the latches
taken, `pc` still at the opcode. -/
def State.asked (s : State) (rest : List Cell) : State :=
  { s with
    D := rest
    condp := if s.config.prefixPersist then s.condp else none
    secp := if s.config.prefixPersist then s.secp else false }

/-- The address a displacement of an instruction of `len` bytes is added to (46_branches.md R275). -/
def State.relBase (s : State) (len : Nat) : Cell :=
  if s.config.relBase = .opcode then s.pc else s.pc + BitVec.ofNat 64 len

/-- An answer with `f` applied to its next state. -/
def mapNext (f : State → State) : Result → Result
  | .next t => .next (f t)
  | .fault r => .fault r
  | .refused r => .refused r

/-- The same state under a setting of PREFIX_PERSIST. -/
def State.withPersist (s : State) (b : Bool) : State := { s with config := { s.config with prefixPersist := b } }

/-- A trap handed over with the machine's state unchanged (60_exceptions.md R352). -/
def State.trapped (s : State) (t : Trap) : State := { s with trap := some t }

end Machine

/-! ### The instructions a rule names -/

/-- CR! and CR@, after which the state is the environment's answer (10_state.md R36). -/
def Instr.asksEnvironment : Instr → Bool
  | .crStore | .crFetch => true
  | _ => false

/-- The 14 instructions that read `cond` (R31). -/
def Instr.readsCond : Instr → Bool
  | .brk | .sc | .jmpdi | .calldi | .ret | .switch => true
  | .jmp8 _ | .jmp16 _ | .jmp32 _ | .jmp64 _ | .call8 _ | .call16 _ | .call32 _ | .call64 _ => true
  | _ => false

/-- The 16 COND instructions (45_cond.md). -/
def Instr.isCond : Instr → Bool
  | .condAlways | .condNever | .condC0 | .condC1 | .condNz | .condZ | .condNzC0 | .condZC1 => true
  | .condGe | .condLt | .condGeC0 | .condLtC1 | .condGt | .condLe | .condGtC0 | .condLeC1 => true
  | _ => false

/-- The instructions that write `C`: the 16 ADDSUB2 encodings and the seven shifts and rotates (R28). -/
def Instr.writesCarry : Instr → Bool
  | .twodupAdd | .twodupAddPlus1 | .twodupAdc | .twodupAdcMinus1 => true
  | .twodupSubMinus1 | .twodupSub | .twodupSbc | .twodupSbcMinus1 => true
  | .add | .addPlus1 | .adc | .adcMinus1 | .subMinus1 | .sub | .sbc | .sbcMinus1 => true
  | .lsl | .lsr | .asr | .rl | .rlc | .rr | .rrc => true
  | _ => false

/-- The instructions that write or pop the return stack (R22). -/
def Instr.writesReturnStack : Instr → Bool
  | .push | .pop | .calldi | .ret | .switch => true
  | .call8 _ | .call16 _ | .call32 _ | .call64 _ | .pear8 _ | .pear16 _ | .pear32 _ | .pear64 _ => true
  | _ => false

/-- The instructions that leave the data stack alone (R23; 46_branches.md R276, R277; 48_pea.md R310). -/
def Instr.sparesDataStack : Instr → Bool
  | .di | .ei | .sec | .brk | .sc | .ret | .switch => true
  | .jmp8 _ | .jmp16 _ | .jmp32 _ | .jmp64 _ | .call8 _ | .call16 _ | .call32 _ | .call64 _ => true
  | .pear8 _ | .pear16 _ | .pear32 _ | .pear64 _ => true
  | _ => false

/-- The four stores (20_memory.md R51). -/
def Instr.isStore : Instr → Bool
  | .st8 | .st16 | .st32 | .st64 => true
  | _ => false

/-- The cells of the data stack an instruction needs to be present whatever the condition, SEC apart
(R23; 42_bool2.md R171; 43_bool1.md R211): 2 for BOOL2, ADDSUB2, the shifts, PERMUTE, CR! and the
stores; 1 for BOOL1, PUSH, JMPDI, CR@ and the loads. -/
def Instr.dataNeeded : Instr → Nat
  | .zero2 | .twodupAnd | .twodupBic | .over2 | .twodupSwapBic | .dup2 | .twodupXor | .twodupOr => 2
  | .twodupNor | .twodupXnor | .dupInvert2 | .twodupInvertOr | .overInvert | .twodupSwapInvertOr => 2
  | .twodupNand | .negOne2 => 2
  | .twodropZero | .and | .bic | .drop | .swapBic | .nip | .xor | .or => 2
  | .nor | .xnor | .invertNip | .invertOr | .dropInvert | .swapInvertOr | .nand | .twodropNegOne => 2
  | .twodupAdd | .twodupAddPlus1 | .twodupAdc | .twodupAdcMinus1 => 2
  | .twodupSubMinus1 | .twodupSub | .twodupSbc | .twodupSbcMinus1 => 2
  | .add | .addPlus1 | .adc | .adcMinus1 | .subMinus1 | .sub | .sbc | .sbcMinus1 => 2
  | .lsl | .lsr | .asr | .permute | .rl | .rlc | .rr | .rrc => 2
  | .crStore | .st8 | .st16 | .st32 | .st64 => 2
  | .zero1 | .dup1 | .dupInvert1 | .negOne1 | .dropZero | .nop | .invert | .dropNegOne => 1
  | .push | .jmpdi | .crFetch => 1
  | .uld8 | .sld8 | .uld16 | .sld16 | .uld32 | .sld32 | .uld64 | .sld64 => 1
  | _ => 0

/-- The instructions that grow the data stack by one cell. -/
def Instr.growsDataStack : Instr → Bool
  | .zero2 | .twodupAnd | .twodupBic | .over2 | .twodupSwapBic | .dup2 | .twodupXor | .twodupOr => true
  | .twodupNor | .twodupXnor | .dupInvert2 | .twodupInvertOr | .overInvert | .twodupSwapInvertOr => true
  | .twodupNand | .negOne2 | .zero1 | .dup1 | .dupInvert1 | .negOne1 => true
  | .twodupAdd | .twodupAddPlus1 | .twodupAdc | .twodupAdcMinus1 => true
  | .twodupSubMinus1 | .twodupSub | .twodupSbc | .twodupSbcMinus1 => true
  | .ulit8 _ | .slit8 _ | .ulit16 _ | .slit16 _ | .ulit32 _ | .slit32 _ | .ulit64 _ | .slit64 _ => true
  | .pead8 _ | .pead16 _ | .pead32 _ | .pead64 _ => true
  | _ => false

end Sys2Proof
end

