-- ==== Sys2Proof/Certificates/Slice0/Obligations.lean ====
section
/-! DEFINITION. The statements for the provers. Each docstring names the rule of spec/ it formalises. -/

open Sys2Proof Sys2Proof.Machine

/-! ### Encoding -/

/-- Decoding the bytes of an instruction gives the instruction back and leaves the bytes after it, for
every row of the opcode table and every immediate (30_encoding.md R80, R81, R84, R95).
Rests on the spec's own decisions D1, D2 and D33 (92_eei_decisions.md). -/
def Obligations.DecodeInvertsEncode : Prop :=
  ∀ (i : Instr) (rest : List Byte), decode (encode i ++ rest) = .ok (i, rest)

/-- Every byte run that decodes is the encoding of what it decodes to, followed by the rest.
Rests on the spec's own decisions D1, D2 and D33 (92_eei_decisions.md). -/
def Obligations.EncodeInvertsDecode : Prop :=
  ∀ (bytes : List Byte) (i : Instr) (rest : List Byte), decode bytes = .ok (i, rest) → bytes = encode i ++ rest

/-- One word or more of every family, written bit by bit from the formats of R82 to R94, decodes to the
instruction it stands for.
Rests on the spec's own decision D2 (92_eei_decisions.md). -/
def Obligations.WrittenWordsDecode : Prop :=
  decode [0b00010000#8] = .ok (.sc, []) ∧
    decode [0b00110001#8, 0x00#8, 0x80#8] = .ok (.slit16 0x8000#16, []) ∧
    decode [0b00100011#8] = .ok (.bic, []) ∧
    decode [0b00110100#8] = .ok (.negOne1, []) ∧
    decode [0b01110110#8] = .ok (.twodupSbcMinus1, []) ∧
    decode [0b00111001#8] = .ok (.condZC1, []) ∧
    decode [0b01011010#8, 0x00#8, 0xF0#8, 0xFF#8, 0xFF#8] = .ok (.call32 0xFFFFF000#32, []) ∧
    decode [0b00111011#8] = .ok (.permute, []) ∧
    decode [0b00011100#8, 0xF0#8] = .ok (.pead8 0xF0#8, []) ∧
    decode [0b00101101#8] = .ok (.st16, []) ∧
    decode [0b01011110#8] = .ok (.sld32, []) ∧
    decode [0b11100000#8] = .ok (.illegalE0, []) ∧
    decode [0b10011000#8] = .ok (.unassigned98, []) ∧
    decode [0b00101010#8, 0x00#8] = .error (.truncatedImmediate 0x2A#8)

/-- Of the 256 opcode bytes, 130 are defined, 74 are listed illegal and 52 are unassigned (R98). -/
def Obligations.OpcodesByClass : Prop :=
  (List.range 256).countP (fun op => (decodeParts (BitVec.ofNat 8 op) 0).opcodeClass = .defined) = 130 ∧
    (List.range 256).countP (fun op => (decodeParts (BitVec.ofNat 8 op) 0).opcodeClass = .listedIllegal) = 74 ∧
    (List.range 256).countP (fun op => (decodeParts (BitVec.ofNat 8 op) 0).opcodeClass = .unassigned) = 52

/-- The bytes that decode to a listed illegal opcode are those of the six patterns of R96, and the bytes
that decode to an unassigned one those of the six of R97, whatever follows the opcode.
Rests on the spec's own decision D15 (92_eei_decisions.md). -/
def Obligations.IllegalPatternsExact : Prop :=
  ∀ (op : Byte) (imm : Nat),
    ((decodeParts op imm).opcodeClass = .listedIllegal ↔
      op &&& 0xEF#8 = 0xE0#8 ∨ op &&& 0xCE#8 = 0x44#8 ∨ op &&& 0x8C#8 = 0x84#8 ∨ op &&& 0x8F#8 = 0x8B#8 ∨
        op &&& 0x1F#8 = 0x1D#8 ∨ op &&& 0x0F#8 = 0x0F#8) ∧
    ((decodeParts op imm).opcodeClass = .unassigned ↔
      op &&& 0x8F#8 = 0x81#8 ∨ op &&& 0x8E#8 = 0x88#8 ∨ op &&& 0x8F#8 = 0x8A#8 ∨ op &&& 0x8F#8 = 0x8C#8 ∨
        op &&& 0x9F#8 = 0x8D#8 ∨ op &&& 0x8F#8 = 0x8E#8)

/-- The length of an instruction: one byte, and `2^sss` more in groups 1, 10 and 12 where bit 7 of the
opcode is 0 (R80, R84); so 1, 2, 3, 5 or 9 bytes.
Rests on the spec's own decisions D1 and D33 (92_eei_decisions.md). -/
def Obligations.InstructionLength : Prop :=
  ∀ i : Instr,
    (encode i).length = 1 + (if i.opcode.toNat % 16 ∈ [1, 10, 12] ∧ i.opcode.toNat < 128
      then 2 ^ (i.opcode.toNat / 32) else 0) ∧
    (encode i).length ∈ [1, 2, 3, 5, 9]

/-! ### The step -/

/-- When the bytes at `pc` decode to `i`, may be fetched, and are not refused as stored to, a step with no
trap pending is `exec i` (10_state.md R41). Nothing is added around `exec`: it moves `pc` itself.
Rests on the spec's own decisions D6, D13 and D31 (92_eei_decisions.md). -/
def Obligations.StepRunsDecoded : Prop :=
  ∀ (s : State) (i : Instr) (rest : List Byte),
    s.trap = none →
    decode (s.mem.readBytes s.pc 9) = .ok (i, rest) →
    s.access s.pc 1 .fetch = true →
    (i.immediate ≠ [] → s.access (s.pc + 1) i.immediate.length .fetch = true) →
    s.fetchRefused s.pc (encode i).length = false →
    step s = exec i s

/-- The first three checks of a step in their order (60_exceptions.md R361, R353, R356): the opcode's fetch;
an opcode that is not defined, before any immediate is fetched; the immediate's fetch.
Rests on the spec's own decisions D15, D19 and D31 (92_eei_decisions.md). -/
def Obligations.FetchChecksInOrder : Prop :=
  ∀ s : State, s.trap = none → s.config.fetchCoherent = true →
    (s.access s.pc 1 .fetch = false → step s = .next (s.trapped (.memFault s.pc 1 .fetch))) ∧
    (s.access s.pc 1 .fetch = true → (decodeParts (s.mem.get s.pc.toNat) 0).wellFormed = false →
      step s = .next (s.trapped (.illegalOpcode (s.mem.get s.pc.toNat)))) ∧
    (s.access s.pc 1 .fetch = true → (decodeParts (s.mem.get s.pc.toNat) 0).wellFormed = true →
      0 < immBytes (s.mem.get s.pc.toNat) →
      s.access (s.pc + 1) (immBytes (s.mem.get s.pc.toNat)) .fetch = false →
      step s = .next (s.trapped (.memFault (s.pc + 1) (immBytes (s.mem.get s.pc.toNat)) .fetch)))

/-- An ST8 that stores over the opcode byte after it: with FETCH_COHERENT the next step runs the byte just
stored, and without it that step is the fault of a fetch of a written byte (20_memory.md R67).
Rests on the spec's own decision D22 (92_eei_decisions.md).
The model's own reading: notes/assumptions/12.md. -/
def Obligations.StoreThenFetch : Prop :=
  ∀ (s : State) (top second : Cell) (rest : List Cell),
    s.mem.wf = true → s.trap = none → s.D = top :: second :: rest →
    (s.storeOperands top second).1 = s.pc + 1 →
    s.access (s.pc + 1) 1 .store = true → s.access (s.pc + 1) 1 .fetch = true →
    immBytes ((s.storeOperands top second).2.setWidth 8) = 0 →
    ∃ t, exec .st8 s = .next t ∧ t.pc = s.pc + 1 ∧
      (s.config.fetchCoherent = true →
        step t = exec (decodeParts ((s.storeOperands top second).2.setWidth 8) 0) t) ∧
      (s.config.fetchCoherent = false → step t = .fault .fetchOfWrittenByte)

/-- A pending trap goes to the environment with the state it was raised in (60_exceptions.md R352): `halt`
ends the run with that trap; a platform's answer, taken as a state of this machine, is the next state.
Rests on the spec's own decision D13 (92_eei_decisions.md).
The model's own reading: notes/assumptions/2.md, notes/assumptions/10.md. -/
def Obligations.TrapHandedToEnvironment : Prop :=
  ∀ (s : State) (tr : Trap), s.trap = some tr →
    (s.config.trapEnv = .halt → step s = .fault (.halted tr)) ∧
    (s.config.trapEnv = .platform →
      step s = match Config.trapAnswer tr { s with trap := none } with
        | none => .fault (.halted tr)
        | some u => .next (s.adopt 0 u))

/-- An environment's answer that is a state of this machine already is taken as it stands: nothing of it is
changed (the model's reading of an answer, notes/assumptions/10.md, changes only what is no state).
Rests on the spec's own decisions D13 and D16 (92_eei_decisions.md). -/
def Obligations.AdoptKeepsMachineStates : Prop :=
  ∀ (s u : State) (room : Nat), u.inv = true → u.trap = none → u.config = s.config → u.stored = s.stored →
    (∀ d, s.config.dsDepth = some d → u.D.length ≤ d - room) → s.adopt room u = u

/-! ### Reset -/

/-- The reset state (10_state.md R40, 70_reset_and_hazards.md R381), for every setting of the parameters, every
image and every choice of what the rule leaves unspecified.
Rests on the spec's own decision D23 (92_eei_decisions.md). -/
def Obligations.LaunchState : Prop :=
  ∀ (config : Config) (image : Memory) (c ie : Bool) (platform : Nat),
    (State.launch config image c ie platform).pc = config.resetPc ∧
      (State.launch config image c ie platform).D = [] ∧
      (State.launch config image c ie platform).Rs = [] ∧
      (State.launch config image c ie platform).condp = none ∧
      (State.launch config image c ie platform).secp = false ∧
      (State.launch config image c ie platform).mem = image ∧
      (State.launch config image c ie platform).trap = none ∧
      (State.launch config image c ie platform).config = config

/-- `State.reset` is a launch state, and its parameters are the defaults of the table of 00_scope.md R7.
(Its MEM_POP and RESET_PC, for which the table gives no default, are the model's: notes/assumptions/8.md.)
Rests on the spec's own decisions D4, D6, D9, D11, D12, D13, D18, D19, D22 and D30 (92_eei_decisions.md). -/
def Obligations.ResetUsesTheDefaults : Prop :=
  (∃ c ie platform, State.reset = State.launch State.reset.config [] c ie platform) ∧
    State.reset.config.relBase = .opcode ∧ State.reset.config.prefixPersist = false ∧
    State.reset.config.shiftFn = .iterate ∧ State.reset.config.dsDepth = none ∧
    State.reset.config.rsDepth = none ∧ State.reset.config.storeOrder = .addrOnTop ∧
    State.reset.config.alignStrict = true ∧ State.reset.config.protection = .none ∧
    State.reset.config.crTraps = .never ∧ State.reset.config.emulateCr = false ∧
    State.reset.config.emulateDiei = false ∧ State.reset.config.trapEnv = .halt ∧
    State.reset.config.fetchCoherent = true

/-- The invariant holds at reset, and at every launch of an image in canonical form.
Rests on the spec's own decision D23 (92_eei_decisions.md). -/
def Obligations.InvAtReset : Prop :=
  State.reset.inv = true ∧
    ∀ (config : Config) (image : Memory) (c ie : Bool) (platform : Nat), image.wf = true →
      (State.launch config image c ie platform).inv = true

/-! ### Rules of the whole machine -/

/-- Every step keeps the invariant, under every setting of the parameters and whatever the environment
answers: memory stays canonical, no stack passes its capacity (R21, R22), the record of stored addresses
stays rising.
Rests on the spec's own decisions D11, D13 and D16 (92_eei_decisions.md).
The model's own reading: notes/assumptions/10.md. -/
def Obligations.InvKeptByStep : Prop :=
  ∀ s t : State, s.inv = true → step s = .next t → t.inv = true

/-- No step changes a parameter (10_state.md R39).
Rests on the spec's own decisions D13 and D16 (92_eei_decisions.md).
The model's own reading: notes/assumptions/1.md. -/
def Obligations.ParametersNeverChange : Prop :=
  ∀ s t : State, step s = .next t → t.config = s.config

/-- `IE` is written by DI and EI alone, the environment's answers apart (10_state.md R35).
Rests on the spec's own decisions D7 and D17 (92_eei_decisions.md). -/
def Obligations.OnlyDiEiWriteInterruptEnable : Prop :=
  ∀ (i : Instr) (s t : State), exec i s = .next t → i ≠ .di → i ≠ .ei → i.asksEnvironment = false → t.IE = s.IE

/-- `C` is written by the ADDSUB2 encodings and the seven shifts and rotates alone, the environment's answers
apart (10_state.md R28, 70_reset_and_hazards.md R387).
Rests on the spec's own decision D7 (92_eei_decisions.md). -/
def Obligations.OnlyNamedWriteCarry : Prop :=
  ∀ (i : Instr) (s t : State), exec i s = .next t → i.writesCarry = false → i.asksEnvironment = false → t.C = s.C

/-- The return stack is written or popped by PUSH, POP, CALLDI, RET, SWITCH, CALL8 to CALL64 and PEAR8 to PEAR64
alone, the environment's answers apart (10_state.md R22).
Rests on the spec's own decision D7 (92_eei_decisions.md). -/
def Obligations.OnlyNamedWriteReturnStack : Prop :=
  ∀ (i : Instr) (s t : State), exec i s = .next t → i.writesReturnStack = false → i.asksEnvironment = false →
    t.Rs = s.Rs

/-- DI, EI, SEC, JMP8 to JMP64, BRK, SC, RET, SWITCH, CALL8 to CALL64 and PEAR8 to PEAR64 leave the data stack alone
(10_state.md R23).
Rests on the spec's own decisions D7 and D29 (92_eei_decisions.md). -/
def Obligations.DataStackSpared : Prop :=
  ∀ (i : Instr) (s t : State), exec i s = .next t → i.sparesDataStack = true → t.D = s.D

/-- Every byte of memory reads as before after an instruction that is no store, the environment's answers
apart (20_memory.md R61).
Rests on the spec's own decisions D7 and D35 (92_eei_decisions.md). -/
def Obligations.OnlyStoresWriteMemory : Prop :=
  ∀ (i : Instr) (s t : State), exec i s = .next t → i.isStore = false → i.asksEnvironment = false →
    ∀ a : Nat, t.mem.get a = s.mem.get a

/-- The control-register space, and whatever else the environment keeps, is reached by CR! and CR@ alone
(10_state.md R36, R39).
Rests on the spec's own decision D16 (92_eei_decisions.md).
The model's own reading: notes/assumptions/6.md. -/
def Obligations.OnlyCrReachesTheEnvironment : Prop :=
  ∀ (i : Instr) (s t : State), exec i s = .next t → i.asksEnvironment = false → t.platform = s.platform

/-- Traps are precise (10_state.md R42, 60_exceptions.md R352, R362): a step that hands over a trap hands over the
state before it unchanged in every component, but for BREAKPOINT and SYSCALL, which clear both latches.
Rests on the spec's own decision D13 (92_eei_decisions.md).
The model's own reading: notes/assumptions/11.md. -/
def Obligations.TrapsArePrecise : Prop :=
  ∀ (s t : State) (tr : Trap), s.trap = none → step s = .next t → t.trap = some tr →
    t = s.trapped tr ∨
      ((tr = .breakpoint s.pc ∨ tr = .syscall s.pc) ∧ t = { s with condp := none, secp := false, trap := some tr })

/-- A prefix latch serves the next instruction only (10_state.md R33, PREFIX_PERSIST = false): after an
instruction that raised no trap, only a COND leaves a condition and only SEC leaves `secp` set.
Rests on the spec's own decision D6 (92_eei_decisions.md). -/
def Obligations.LatchesServeOneInstruction : Prop :=
  ∀ (i : Instr) (s t : State), s.config.prefixPersist = false → s.trap = none → exec i s = .next t → t.trap = none →
    i.asksEnvironment = false →
    (i.isCond = false → t.condp = none) ∧ (i.isCond = true → t.condp ≠ none) ∧
      (i ≠ .sec → t.secp = false) ∧ (i = .sec → t.secp = true)

/-- Where a pending COND meets only one of the 14 instructions that read it (or another COND) and a pending SEC
only a COND, an instruction behaves the same under both settings of PREFIX_PERSIST (R33, R386).
Rests on the spec's own decision D6 (92_eei_decisions.md). -/
def Obligations.PrefixPersistIrrelevant : Prop :=
  ∀ (i : Instr) (s : State), i.asksEnvironment = false →
    (s.condp ≠ none → i.readsCond = true ∨ i.isCond = true) → (s.secp = true → i.isCond = true) →
    mapNext (fun t => t.withPersist true) (exec i (s.withPersist false)) = exec i (s.withPersist true)

/-- No instruction and no step is refused. -/
def Obligations.NothingRefused : Prop :=
  (∀ (i : Instr) (s : State) (r : Refusal), exec i s ≠ .refused r) ∧ ∀ (s : State) (r : Refusal), step s ≠ .refused r

/-- "With DS_DEPTH and RS_DEPTH unbounded only the two underflows can occur" (60_exceptions.md R358).
Rests on the spec's own decision D11 (92_eei_decisions.md). -/
def Obligations.UnboundedStacksOnlyUnderflow : Prop :=
  ∀ (i : Instr) (s : State) (r : Fault), s.config.dsDepth = none → s.config.rsDepth = none → exec i s = .fault r →
    r = .dstackUnderflow ∨ r = .rstackUnderflow

/-! ### Stack underflow and overflow -/

/-- An instruction that needs more data-stack cells than are present ends in DSTACK_UNDERFLOW, before any other
check of its own (R10, R171, R211, R358, R361): BOOL2, BOOL1, ADDSUB2, the shifts, PERMUTE, PUSH, JMPDI, CR!, CR@, the
stores, the loads; a COND, which needs two after SEC; CALLDI when its condition is TRUE.
Rests on the spec's own decisions D11, D28 and D31 (92_eei_decisions.md). -/
def Obligations.DataStackUnderflow : Prop :=
  (∀ (i : Instr) (s : State), s.D.length < i.dataNeeded → exec i s = .fault .dstackUnderflow) ∧
    (∀ (i : Instr) (s : State), i.isCond = true → s.D.length < (if s.secp = true then 2 else 1) →
      exec i s = .fault .dstackUnderflow) ∧
    (∀ s : State, s.condp ≠ some false → s.D = [] → exec .calldi s = .fault .dstackUnderflow)

/-- A push onto a data stack that holds DS_DEPTH cells ends in DSTACK_OVERFLOW (R10, R358): the BOOL2, BOOL1 and
ADDSUB2 forms that keep their inputs, the literals, PEAD; POP and R@ when the return stack has a cell.
Rests on the spec's own decision D11 (92_eei_decisions.md). -/
def Obligations.DataStackOverflow : Prop :=
  ∀ (s : State) (d : Nat), s.config.dsDepth = some d → s.D.length = d →
    (∀ i : Instr, i.growsDataStack = true → i.dataNeeded ≤ d → exec i s = .fault .dstackOverflow) ∧
    (s.Rs ≠ [] → exec .pop s = .fault .dstackOverflow ∧ exec .rFetch s = .fault .dstackOverflow)

/-- An empty return stack ends POP, RET, R@ and a taken SWITCH in RSTACK_UNDERFLOW; a full one ends PUSH, a taken
CALLDI, a taken CALL and PEAR in RSTACK_OVERFLOW (R10, R358).
Rests on the spec's own decisions D11 and D25 (92_eei_decisions.md). -/
def Obligations.ReturnStackFaults : Prop :=
  (∀ s : State, s.Rs = [] →
    exec .pop s = .fault .rstackUnderflow ∧ exec .ret s = .fault .rstackUnderflow ∧
      exec .rFetch s = .fault .rstackUnderflow ∧ (s.condp ≠ some false → exec .switch s = .fault .rstackUnderflow)) ∧
  (∀ (s : State) (d : Nat) (d8 : BitVec 8) (d16 : BitVec 16) (d32 : BitVec 32) (d64 : BitVec 64),
    s.config.rsDepth = some d → s.Rs.length = d →
    (s.D ≠ [] → exec .push s = .fault .rstackOverflow) ∧
    (s.D ≠ [] → s.condp ≠ some false → exec .calldi s = .fault .rstackOverflow) ∧
    (s.condp ≠ some false →
      exec (.call8 d8) s = .fault .rstackOverflow ∧ exec (.call16 d16) s = .fault .rstackOverflow ∧
      exec (.call32 d32) s = .fault .rstackOverflow ∧ exec (.call64 d64) s = .fault .rstackOverflow) ∧
    exec (.pear8 d8) s = .fault .rstackOverflow ∧ exec (.pear16 d16) s = .fault .rstackOverflow ∧
    exec (.pear32 d32) s = .fault .rstackOverflow ∧ exec (.pear64 d64) s = .fault .rstackOverflow)

/-! ### Group 0 -/

/-- BRK traps unless a COND left FALSE: the state handed over has `pc` at the opcode, both latches cleared and
everything else as before; otherwise it is a one-byte no-operation (40_group0.md R120).
The model's own reading: notes/assumptions/11.md. -/
def Obligations.BrkTraps : Prop :=
  ∀ s : State, exec .brk s = .next (if s.condp = some false then s.transferred (s.pc + 1) s.D s.Rs
    else { s with condp := none, secp := false, trap := some (.breakpoint s.pc) })

/-- SC likewise, the data stack untouched and no service number asked for (40_group0.md R121, R355).
Rests on the spec's own decision D29 (92_eei_decisions.md).
The model's own reading: notes/assumptions/11.md. -/
def Obligations.ScTraps : Prop :=
  ∀ s : State, exec .sc s = .next (if s.condp = some false then s.transferred (s.pc + 1) s.D s.Rs
    else { s with condp := none, secp := false, trap := some (.syscall s.pc) })

/-- POP and PUSH move a cell between the stacks and R@ copies one (40_group0.md R122, R123, R133), with the
`Undefined` each rule names when a stack is empty or full.
Rests on the spec's own decision D11 (92_eei_decisions.md).
That a push onto a stack above its capacity overflows too is the model's own reading: notes/assumptions/17.md. -/
def Obligations.StackMoves : Prop :=
  (∀ (s : State) (x : Cell) (rest : List Cell), s.Rs = x :: rest →
    (hasRoom s.config.dsDepth s.D = true →
      exec .pop s = .next (s.after 1 (x :: s.D) rest) ∧ exec .rFetch s = .next (s.after 1 (x :: s.D) (x :: rest))) ∧
    (hasRoom s.config.dsDepth s.D = false →
      exec .pop s = .fault .dstackOverflow ∧ exec .rFetch s = .fault .dstackOverflow)) ∧
  (∀ s : State, s.Rs = [] → exec .pop s = .fault .rstackUnderflow ∧ exec .rFetch s = .fault .rstackUnderflow) ∧
  (∀ (s : State) (x : Cell) (rest : List Cell), s.D = x :: rest →
    (hasRoom s.config.rsDepth s.Rs = true → exec .push s = .next (s.after 1 rest (x :: s.Rs))) ∧
    (hasRoom s.config.rsDepth s.Rs = false → exec .push s = .fault .rstackOverflow)) ∧
  (∀ s : State, s.D = [] → exec .push s = .fault .dstackUnderflow)

/-- JMPDI and RET pop their address whether or not they transfer, and are `Undefined` where there is none
(40_group0.md R124, R126). -/
def Obligations.JmpdiAndRet : Prop :=
  ∀ (s : State) (a : Cell) (rest : List Cell),
    (s.D = a :: rest →
      exec .jmpdi s = .next (s.transferred (if s.condp = some false then s.pc + 1 else a) rest s.Rs)) ∧
    (s.Rs = a :: rest →
      exec .ret s = .next (s.transferred (if s.condp = some false then s.pc + 1 else a) s.D rest)) ∧
    (s.D = [] → exec .jmpdi s = .fault .dstackUnderflow) ∧
    (s.Rs = [] → exec .ret s = .fault .rstackUnderflow)

/-- CALLDI and SWITCH pop, push `pc + 1` and transfer when the condition is TRUE, and only advance when it is
FALSE; taken, they are `Undefined` where the address is missing, and CALLDI where the return stack is full
(40_group0.md R125, R127).
Rests on the spec's own decisions D11 and D25 (92_eei_decisions.md).
That CALLDI overflows on a return stack above its capacity too is the model's own reading: notes/assumptions/17.md. -/
def Obligations.CalldiAndSwitch : Prop :=
  (∀ s : State, s.condp = some false →
    exec .calldi s = .next (s.transferred (s.pc + 1) s.D s.Rs) ∧
      exec .switch s = .next (s.transferred (s.pc + 1) s.D s.Rs)) ∧
  (∀ (s : State) (a : Cell) (rest : List Cell), s.condp ≠ some false → s.D = a :: rest →
    hasRoom s.config.rsDepth s.Rs = true →
    exec .calldi s = .next (s.transferred a rest ((s.pc + 1) :: s.Rs))) ∧
  (∀ (s : State) (a : Cell) (rest : List Cell), s.condp ≠ some false → s.Rs = a :: rest →
    exec .switch s = .next (s.transferred a s.D ((s.pc + 1) :: rest))) ∧
  (∀ s : State, s.condp ≠ some false →
    (s.D = [] → exec .calldi s = .fault .dstackUnderflow) ∧
    (s.D ≠ [] → hasRoom s.config.rsDepth s.Rs = false → exec .calldi s = .fault .rstackOverflow) ∧
    (s.Rs = [] → exec .switch s = .fault .rstackUnderflow))

/-- DI clears `IE` and EI sets it, unless EMULATE_DIEI, when they raise EMULATION with the state unchanged
(40_group0.md R130, R131; 60_exceptions.md R357).
Rests on the spec's own decisions D17 and D30 (92_eei_decisions.md). -/
def Obligations.DiAndEi : Prop :=
  ∀ s : State,
    (s.config.emulateDiei = false →
      exec .di s = .next { s.after 1 s.D s.Rs with IE := false } ∧
        exec .ei s = .next { s.after 1 s.D s.Rs with IE := true }) ∧
    (s.config.emulateDiei = true →
      exec .di s = .next (s.trapped (.emulation s.pc)) ∧ exec .ei s = .next (s.trapped (.emulation s.pc)))

/-- SEC sets its latch, discards a pending condition as every instruction that does not read it does, and passes
its byte (40_group0.md R132, 10_state.md R33).
Rests on the spec's own decision D6 (92_eei_decisions.md). -/
def Obligations.SecSetsItsLatch : Prop :=
  ∀ s : State, exec .sec s = .next { s.after 1 s.D s.Rs with secp := true }

/-- CR! (40_group0.md R128): CRWrite is asked with the register number on top, the value under it and the state
after both are popped; its answer, as a state of this machine, becomes the state and `pc` passes the byte. EMULATION,
with the state unchanged, where EMULATE_CR is set or the platform's CRWrite answers with a trap.
Rests on the spec's own decisions D16 and D30 (92_eei_decisions.md).
The model's own reading: notes/assumptions/10.md. -/
def Obligations.CrStoreAsksCrWrite : Prop :=
  ∀ (s : State) (num val : Cell) (rest : List Cell), s.D = num :: val :: rest →
    (s.config.emulateCr = false → s.config.crTraps = .never →
      exec .crStore s = .next { s.adopt 0 (Config.crWrite num val (s.asked rest)) with
        pc := (Config.crWrite num val (s.asked rest)).pc + 1 }) ∧
    (s.config.emulateCr = false → s.config.crTraps = .platform →
      exec .crStore s = .next (if Config.crWriteTraps num val (s.asked rest) then s.trapped (.emulation s.pc)
        else { s.adopt 0 (Config.crWrite num val (s.asked rest)) with
          pc := (Config.crWrite num val (s.asked rest)).pc + 1 })) ∧
    (s.config.emulateCr = true → exec .crStore s = .next (s.trapped (.emulation s.pc)))

/-- CR@ (40_group0.md R129): the register number is replaced by the value CRRead answers, on the state it answers,
and `pc` passes the byte; EMULATION as for CR!.
Rests on the spec's own decisions D16 and D30 (92_eei_decisions.md).
The model's own reading: notes/assumptions/10.md. -/
def Obligations.CrFetchAsksCrRead : Prop :=
  ∀ (s : State) (num : Cell) (rest : List Cell), s.D = num :: rest →
    (s.config.emulateCr = false → s.config.crTraps = .never →
      exec .crFetch s = .next { s.adopt 1 (Config.crRead num (s.asked rest)).2 with
        D := (Config.crRead num (s.asked rest)).1 :: (s.adopt 1 (Config.crRead num (s.asked rest)).2).D
        pc := (Config.crRead num (s.asked rest)).2.pc + 1 }) ∧
    (s.config.emulateCr = false → s.config.crTraps = .platform →
      exec .crFetch s = .next (if Config.crReadTraps num (s.asked rest) then s.trapped (.emulation s.pc)
        else { s.adopt 1 (Config.crRead num (s.asked rest)).2 with
          D := (Config.crRead num (s.asked rest)).1 :: (s.adopt 1 (Config.crRead num (s.asked rest)).2).D
          pc := (Config.crRead num (s.asked rest)).2.pc + 1 })) ∧
    (s.config.emulateCr = true → exec .crFetch s = .next (s.trapped (.emulation s.pc)))

/-! ### Literals -/

/-- The eight literals push their immediate, zero- or sign-extended, and pass their bytes (41_literals.md R150 to
R158).
Rests on the spec's own decisions D2 and D7 (92_eei_decisions.md). -/
def Obligations.LiteralsPush : Prop :=
  ∀ (s : State) (v8 : BitVec 8) (v16 : BitVec 16) (v32 : BitVec 32) (v64 : BitVec 64),
    hasRoom s.config.dsDepth s.D = true →
    exec (.ulit8 v8) s = .next (s.after 2 (BitVec.ofNat 64 v8.toNat :: s.D) s.Rs) ∧
    exec (.slit8 v8) s = .next (s.after 2 (BitVec.ofInt 64 v8.toInt :: s.D) s.Rs) ∧
    exec (.ulit16 v16) s = .next (s.after 3 (BitVec.ofNat 64 v16.toNat :: s.D) s.Rs) ∧
    exec (.slit16 v16) s = .next (s.after 3 (BitVec.ofInt 64 v16.toInt :: s.D) s.Rs) ∧
    exec (.ulit32 v32) s = .next (s.after 5 (BitVec.ofNat 64 v32.toNat :: s.D) s.Rs) ∧
    exec (.slit32 v32) s = .next (s.after 5 (BitVec.ofInt 64 v32.toInt :: s.D) s.Rs) ∧
    exec (.ulit64 v64) s = .next (s.after 9 (v64 :: s.D) s.Rs) ∧
    exec (.slit64 v64) s = .next (s.after 9 (v64 :: s.D) s.Rs)

/-! ### BOOL2 and BOOL1 -/

/-- The 16 BOOL2 encodings that keep their inputs push their function of the two top cells, `C` and everything else
unchanged (42_bool2.md R170, R173 to R188).
Rests on the spec's own decisions D7 and D28 (92_eei_decisions.md). -/
def Obligations.Bool2KeptResults : Prop :=
  ∀ (s : State) (x1 x2 : Cell) (rest : List Cell), s.D = x2 :: x1 :: rest → hasRoom s.config.dsDepth s.D = true →
    exec .zero2 s = .next (s.after 1 (0#64 :: s.D) s.Rs) ∧
    exec .twodupAnd s = .next (s.after 1 ((x1 &&& x2) :: s.D) s.Rs) ∧
    exec .twodupBic s = .next (s.after 1 ((x1 &&& ~~~x2) :: s.D) s.Rs) ∧
    exec .over2 s = .next (s.after 1 (x1 :: s.D) s.Rs) ∧
    exec .twodupSwapBic s = .next (s.after 1 ((~~~x1 &&& x2) :: s.D) s.Rs) ∧
    exec .dup2 s = .next (s.after 1 (x2 :: s.D) s.Rs) ∧
    exec .twodupXor s = .next (s.after 1 ((x1 ^^^ x2) :: s.D) s.Rs) ∧
    exec .twodupOr s = .next (s.after 1 ((x1 ||| x2) :: s.D) s.Rs) ∧
    exec .twodupNor s = .next (s.after 1 (~~~(x1 ||| x2) :: s.D) s.Rs) ∧
    exec .twodupXnor s = .next (s.after 1 (~~~(x1 ^^^ x2) :: s.D) s.Rs) ∧
    exec .dupInvert2 s = .next (s.after 1 (~~~x2 :: s.D) s.Rs) ∧
    exec .twodupInvertOr s = .next (s.after 1 ((x1 ||| ~~~x2) :: s.D) s.Rs) ∧
    exec .overInvert s = .next (s.after 1 (~~~x1 :: s.D) s.Rs) ∧
    exec .twodupSwapInvertOr s = .next (s.after 1 ((~~~x1 ||| x2) :: s.D) s.Rs) ∧
    exec .twodupNand s = .next (s.after 1 (~~~(x1 &&& x2) :: s.D) s.Rs) ∧
    exec .negOne2 s = .next (s.after 1 (0xFFFFFFFFFFFFFFFF#64 :: s.D) s.Rs)

/-- The 16 BOOL2 encodings that pop their inputs replace them by their function, `C` and everything else unchanged
(42_bool2.md R170, R189 to R204).
Rests on the spec's own decisions D7 and D28 (92_eei_decisions.md). -/
def Obligations.Bool2PoppedResults : Prop :=
  ∀ (s : State) (x1 x2 : Cell) (rest : List Cell), s.D = x2 :: x1 :: rest →
    exec .twodropZero s = .next (s.after 1 (0#64 :: rest) s.Rs) ∧
    exec .and s = .next (s.after 1 ((x1 &&& x2) :: rest) s.Rs) ∧
    exec .bic s = .next (s.after 1 ((x1 &&& ~~~x2) :: rest) s.Rs) ∧
    exec .drop s = .next (s.after 1 (x1 :: rest) s.Rs) ∧
    exec .swapBic s = .next (s.after 1 ((~~~x1 &&& x2) :: rest) s.Rs) ∧
    exec .nip s = .next (s.after 1 (x2 :: rest) s.Rs) ∧
    exec .xor s = .next (s.after 1 ((x1 ^^^ x2) :: rest) s.Rs) ∧
    exec .or s = .next (s.after 1 ((x1 ||| x2) :: rest) s.Rs) ∧
    exec .nor s = .next (s.after 1 (~~~(x1 ||| x2) :: rest) s.Rs) ∧
    exec .xnor s = .next (s.after 1 (~~~(x1 ^^^ x2) :: rest) s.Rs) ∧
    exec .invertNip s = .next (s.after 1 (~~~x2 :: rest) s.Rs) ∧
    exec .invertOr s = .next (s.after 1 ((x1 ||| ~~~x2) :: rest) s.Rs) ∧
    exec .dropInvert s = .next (s.after 1 (~~~x1 :: rest) s.Rs) ∧
    exec .swapInvertOr s = .next (s.after 1 ((~~~x1 ||| x2) :: rest) s.Rs) ∧
    exec .nand s = .next (s.after 1 (~~~(x1 &&& x2) :: rest) s.Rs) ∧
    exec .twodropNegOne s = .next (s.after 1 (0xFFFFFFFFFFFFFFFF#64 :: rest) s.Rs)

/-- The eight BOOL1 encodings: the four functions of the top cell, pushed over it or in its place, `C` and
everything else unchanged (43_bool1.md R210, R212 to R219).
Rests on the spec's own decisions D7 and D28 (92_eei_decisions.md). -/
def Obligations.Bool1Results : Prop :=
  ∀ (s : State) (x1 : Cell) (rest : List Cell), s.D = x1 :: rest →
    (hasRoom s.config.dsDepth s.D = true →
      exec .zero1 s = .next (s.after 1 (0#64 :: s.D) s.Rs) ∧
      exec .dup1 s = .next (s.after 1 (x1 :: s.D) s.Rs) ∧
      exec .dupInvert1 s = .next (s.after 1 (~~~x1 :: s.D) s.Rs) ∧
      exec .negOne1 s = .next (s.after 1 (0xFFFFFFFFFFFFFFFF#64 :: s.D) s.Rs)) ∧
    exec .dropZero s = .next (s.after 1 (0#64 :: rest) s.Rs) ∧
    exec .nop s = .next (s.after 1 (x1 :: rest) s.Rs) ∧
    exec .invert s = .next (s.after 1 (~~~x1 :: rest) s.Rs) ∧
    exec .dropNegOne s = .next (s.after 1 (0xFFFFFFFFFFFFFFFF#64 :: rest) s.Rs)

/-! ### ADDSUB2 -/

/-- The adding encodings (44_addsub2.md R225, R226, R228 to R231, R236 to R239): the sum modulo 2^64, and the carry
out of bit 63 in `C`, over the inputs or in their place.
Rests on the spec's own decisions D8 and D28 (92_eei_decisions.md). -/
def Obligations.AddResults : Prop :=
  ∀ (s : State) (x1 x2 : Cell) (rest : List Cell), s.D = x2 :: x1 :: rest →
    (hasRoom s.config.dsDepth s.D = true →
      exec .twodupAdd s = .next { s.after 1 ((x1 + x2) :: s.D) s.Rs with
        C := decide (2 ^ 64 ≤ x1.toNat + x2.toNat) } ∧
      exec .twodupAddPlus1 s = .next { s.after 1 ((x1 + x2 + 1) :: s.D) s.Rs with
        C := decide (2 ^ 64 ≤ x1.toNat + x2.toNat + 1) } ∧
      exec .twodupAdc s = .next { s.after 1 ((x1 + x2 + BitVec.ofNat 64 s.C.toNat) :: s.D) s.Rs with
        C := decide (2 ^ 64 ≤ x1.toNat + x2.toNat + s.C.toNat) } ∧
      exec .twodupAdcMinus1 s = .next { s.after 1 ((x1 + x2 + BitVec.ofNat 64 (1 - s.C.toNat)) :: s.D) s.Rs with
        C := decide (2 ^ 64 ≤ x1.toNat + x2.toNat + (1 - s.C.toNat)) }) ∧
    exec .add s = .next { s.after 1 ((x1 + x2) :: rest) s.Rs with
      C := decide (2 ^ 64 ≤ x1.toNat + x2.toNat) } ∧
    exec .addPlus1 s = .next { s.after 1 ((x1 + x2 + 1) :: rest) s.Rs with
      C := decide (2 ^ 64 ≤ x1.toNat + x2.toNat + 1) } ∧
    exec .adc s = .next { s.after 1 ((x1 + x2 + BitVec.ofNat 64 s.C.toNat) :: rest) s.Rs with
      C := decide (2 ^ 64 ≤ x1.toNat + x2.toNat + s.C.toNat) } ∧
    exec .adcMinus1 s = .next { s.after 1 ((x1 + x2 + BitVec.ofNat 64 (1 - s.C.toNat)) :: rest) s.Rs with
      C := decide (2 ^ 64 ≤ x1.toNat + x2.toNat + (1 - s.C.toNat)) }

/-- The subtracting encodings (44_addsub2.md R225 to R227, R232 to R235, R240 to R243): the difference modulo 2^64, and
`C` set exactly when there is no borrow, over the inputs or in their place.
Rests on the spec's own decisions D8 and D28 (92_eei_decisions.md). -/
def Obligations.SubResults : Prop :=
  ∀ (s : State) (x1 x2 : Cell) (rest : List Cell), s.D = x2 :: x1 :: rest →
    (hasRoom s.config.dsDepth s.D = true →
      exec .twodupSubMinus1 s = .next { s.after 1 ((x1 - x2 - 1) :: s.D) s.Rs with
        C := decide (x2.toNat < x1.toNat) } ∧
      exec .twodupSub s = .next { s.after 1 ((x1 - x2) :: s.D) s.Rs with
        C := decide (x2.toNat ≤ x1.toNat) } ∧
      exec .twodupSbc s = .next { s.after 1 ((x1 - x2 - 1 + BitVec.ofNat 64 s.C.toNat) :: s.D) s.Rs with
        C := decide (x2.toNat + 1 ≤ x1.toNat + s.C.toNat) } ∧
      exec .twodupSbcMinus1 s = .next { s.after 1 ((x1 - x2 - BitVec.ofNat 64 s.C.toNat) :: s.D) s.Rs with
        C := decide (x2.toNat + s.C.toNat ≤ x1.toNat) }) ∧
    exec .subMinus1 s = .next { s.after 1 ((x1 - x2 - 1) :: rest) s.Rs with
      C := decide (x2.toNat < x1.toNat) } ∧
    exec .sub s = .next { s.after 1 ((x1 - x2) :: rest) s.Rs with
      C := decide (x2.toNat ≤ x1.toNat) } ∧
    exec .sbc s = .next { s.after 1 ((x1 - x2 - 1 + BitVec.ofNat 64 s.C.toNat) :: rest) s.Rs with
      C := decide (x2.toNat + 1 ≤ x1.toNat + s.C.toNat) } ∧
    exec .sbcMinus1 s = .next { s.after 1 ((x1 - x2 - BitVec.ofNat 64 s.C.toNat) :: rest) s.Rs with
      C := decide (x2.toNat + s.C.toNat ≤ x1.toNat) }

/-- ADD on the low cells and ADC on the high cells, the carry kept between them, add two 128-bit numbers exactly; SUB
and SBC subtract them, the last `C` saying that there was no borrow (44_addsub2.md R230, R234; R387).
Rests on the spec's own decisions D7 and D8 (92_eei_decisions.md). -/
def Obligations.TwoCellArithmetic : Prop :=
  ∀ (s u : State) (lowA lowB highA highB : Cell) (rest rest' : List Cell),
    s.D = lowB :: lowA :: rest → u.D = highB :: highA :: rest' →
    (∃ t low, exec .add s = .next t ∧ t.D = low :: rest ∧
      (u.C = t.C → ∃ v high, exec .adc u = .next v ∧ v.D = high :: rest' ∧
        low.toNat + 2 ^ 64 * high.toNat + 2 ^ 128 * v.C.toNat =
          (lowA.toNat + 2 ^ 64 * highA.toNat) + (lowB.toNat + 2 ^ 64 * highB.toNat))) ∧
    (∃ t low, exec .sub s = .next t ∧ t.D = low :: rest ∧
      (u.C = t.C → ∃ v high, exec .sbc u = .next v ∧ v.D = high :: rest' ∧
        low.toNat + 2 ^ 64 * high.toNat + (lowB.toNat + 2 ^ 64 * highB.toNat) + 2 ^ 128 * v.C.toNat =
          (lowA.toNat + 2 ^ 64 * highA.toNat) + 2 ^ 128))

/-! ### COND -/

/-- COND not preceded by SEC pops the top cell and latches its test of it and of `C` (45_cond.md R250, R252 to R268).
Rests on the spec's own decision D6 (92_eei_decisions.md). -/
def Obligations.CondTestsTheTop : Prop :=
  ∀ (s : State) (x : Cell) (rest : List Cell), s.secp = false → s.D = x :: rest →
    exec .condAlways s = .next { s.after 1 rest s.Rs with condp := some true } ∧
    exec .condNever s = .next { s.after 1 rest s.Rs with condp := some false } ∧
    exec .condC0 s = .next { s.after 1 rest s.Rs with condp := some (!s.C) } ∧
    exec .condC1 s = .next { s.after 1 rest s.Rs with condp := some s.C } ∧
    exec .condNz s = .next { s.after 1 rest s.Rs with condp := some (decide (x ≠ 0)) } ∧
    exec .condZ s = .next { s.after 1 rest s.Rs with condp := some (decide (x = 0)) } ∧
    exec .condNzC0 s = .next { s.after 1 rest s.Rs with condp := some (decide (x ≠ 0) && !s.C) } ∧
    exec .condZC1 s = .next { s.after 1 rest s.Rs with condp := some (decide (x = 0) || s.C) } ∧
    exec .condGe s = .next { s.after 1 rest s.Rs with condp := some (decide (0 ≤ x.toInt)) } ∧
    exec .condLt s = .next { s.after 1 rest s.Rs with condp := some (decide (x.toInt < 0)) } ∧
    exec .condGeC0 s = .next { s.after 1 rest s.Rs with condp := some (decide (0 ≤ x.toInt) && !s.C) } ∧
    exec .condLtC1 s = .next { s.after 1 rest s.Rs with condp := some (decide (x.toInt < 0) || s.C) } ∧
    exec .condGt s = .next { s.after 1 rest s.Rs with condp := some (decide (0 < x.toInt)) } ∧
    exec .condLe s = .next { s.after 1 rest s.Rs with condp := some (decide (x.toInt ≤ 0)) } ∧
    exec .condGtC0 s = .next { s.after 1 rest s.Rs with condp := some (decide (0 < x.toInt) && !s.C) } ∧
    exec .condLeC1 s = .next { s.after 1 rest s.Rs with condp := some (decide (x.toInt ≤ 0) || s.C) }

/-- COND after SEC does to the second cell what COND alone does to the top one, leaves the top cell on the stack, and
takes the SEC latch (45_cond.md R251, R250; 00_scope.md R10).
Rests on the spec's own decision D6 (92_eei_decisions.md). -/
def Obligations.CondAfterSecTestsTheSecond : Prop :=
  ∀ (i : Instr) (s : State) (top x : Cell) (rest : List Cell), i.isCond = true → s.secp = true →
    s.D = top :: x :: rest →
    ∃ b, exec i { s with secp := false, D := x :: rest } =
        .next { s.after 1 rest s.Rs with condp := some b, secp := false } ∧
      exec i s = .next { s.after 1 (top :: rest) s.Rs with condp := some b, secp := false }

/-! ### Direct jumps and calls, effective addresses -/

/-- JMP8 to JMP64 set `pc` to the base plus the sign-extended displacement, or pass their bytes after a COND that left
FALSE; neither stack is touched (46_branches.md R275, R276, R278, R280, R282, R284).
Rests on the spec's own decisions D2, D3, D4 and D20 (92_eei_decisions.md). -/
def Obligations.JumpTargets : Prop :=
  ∀ (s : State) (d8 : BitVec 8) (d16 : BitVec 16) (d32 : BitVec 32) (d64 : BitVec 64),
    exec (.jmp8 d8) s = .next (s.transferred
      (if s.condp = some false then s.pc + 2 else s.relBase 2 + BitVec.ofInt 64 d8.toInt) s.D s.Rs) ∧
    exec (.jmp16 d16) s = .next (s.transferred
      (if s.condp = some false then s.pc + 3 else s.relBase 3 + BitVec.ofInt 64 d16.toInt) s.D s.Rs) ∧
    exec (.jmp32 d32) s = .next (s.transferred
      (if s.condp = some false then s.pc + 5 else s.relBase 5 + BitVec.ofInt 64 d32.toInt) s.D s.Rs) ∧
    exec (.jmp64 d64) s = .next (s.transferred
      (if s.condp = some false then s.pc + 9 else s.relBase 9 + d64) s.D s.Rs)

/-- CALL8 to CALL64 also push the address after their displacement; after a COND that left FALSE they push nothing
(46_branches.md R275, R277, R279, R281, R283, R285).
Rests on the spec's own decisions D2, D3, D4, D5 and D20 (92_eei_decisions.md). -/
def Obligations.CallTargets : Prop :=
  ∀ (s : State) (d8 : BitVec 8) (d16 : BitVec 16) (d32 : BitVec 32) (d64 : BitVec 64),
    (s.condp ≠ some false → hasRoom s.config.rsDepth s.Rs = true →
      exec (.call8 d8) s = .next (s.transferred (s.relBase 2 + BitVec.ofInt 64 d8.toInt) s.D ((s.pc + 2) :: s.Rs)) ∧
      exec (.call16 d16) s = .next (s.transferred (s.relBase 3 + BitVec.ofInt 64 d16.toInt) s.D ((s.pc + 3) :: s.Rs)) ∧
      exec (.call32 d32) s = .next (s.transferred (s.relBase 5 + BitVec.ofInt 64 d32.toInt) s.D ((s.pc + 5) :: s.Rs)) ∧
      exec (.call64 d64) s = .next (s.transferred (s.relBase 9 + d64) s.D ((s.pc + 9) :: s.Rs))) ∧
    (s.condp = some false →
      exec (.call8 d8) s = .next (s.transferred (s.pc + 2) s.D s.Rs) ∧
      exec (.call16 d16) s = .next (s.transferred (s.pc + 3) s.D s.Rs) ∧
      exec (.call32 d32) s = .next (s.transferred (s.pc + 5) s.D s.Rs) ∧
      exec (.call64 d64) s = .next (s.transferred (s.pc + 9) s.D s.Rs))

/-- PEAR8 to PEAR64 push the effective address on the return stack and PEAD8 to PEAD64 on the data stack; nothing else
changes but `pc` and the latches (48_pea.md R310 to R318).
Rests on the spec's own decisions D2, D3, D4 and D20 (92_eei_decisions.md). -/
def Obligations.EffectiveAddresses : Prop :=
  ∀ (s : State) (d8 : BitVec 8) (d16 : BitVec 16) (d32 : BitVec 32) (d64 : BitVec 64),
    (hasRoom s.config.rsDepth s.Rs = true →
      exec (.pear8 d8) s = .next (s.after 2 s.D ((s.relBase 2 + BitVec.ofInt 64 d8.toInt) :: s.Rs)) ∧
      exec (.pear16 d16) s = .next (s.after 3 s.D ((s.relBase 3 + BitVec.ofInt 64 d16.toInt) :: s.Rs)) ∧
      exec (.pear32 d32) s = .next (s.after 5 s.D ((s.relBase 5 + BitVec.ofInt 64 d32.toInt) :: s.Rs)) ∧
      exec (.pear64 d64) s = .next (s.after 9 s.D ((s.relBase 9 + d64) :: s.Rs))) ∧
    (hasRoom s.config.dsDepth s.D = true →
      exec (.pead8 d8) s = .next (s.after 2 ((s.relBase 2 + BitVec.ofInt 64 d8.toInt) :: s.D) s.Rs) ∧
      exec (.pead16 d16) s = .next (s.after 3 ((s.relBase 3 + BitVec.ofInt 64 d16.toInt) :: s.D) s.Rs) ∧
      exec (.pead32 d32) s = .next (s.after 5 ((s.relBase 5 + BitVec.ofInt 64 d32.toInt) :: s.D) s.Rs) ∧
      exec (.pead64 d64) s = .next (s.after 9 ((s.relBase 9 + d64) :: s.D) s.Rs))

/-! ### Shifts, rotations, PERMUTE -/

/-- The seven shifts and rotates pop the count and the operand and push what the one-bit step applied count times
gives, its carry in `C` (47_shifts.md R290, R292, R293 to R295, R297 to R300); under another SHIFT_FN, the one-bit step
for a count of 1 and the platform's own function for every other count (00_scope.md R7).
Rests on the spec's own decisions D7, D9 and D28 (92_eei_decisions.md). -/
def Obligations.ShiftResults : Prop :=
  ∀ (s : State) (n cnt : Cell) (rest : List Cell), s.D = cnt :: n :: rest →
    ∀ p ∈ [(Instr.lsl, ShiftOp.lsl), (Instr.lsr, ShiftOp.lsr), (Instr.asr, ShiftOp.asr), (Instr.rl, ShiftOp.rl),
      (Instr.rlc, ShiftOp.rlc), (Instr.rr, ShiftOp.rr), (Instr.rrc, ShiftOp.rrc)],
    (s.config.shiftFn = .iterate →
      exec p.1 s = .next { s.after 1 ((shiftIterate p.2 cnt.toNat n s.C).1 :: rest) s.Rs with
        C := (shiftIterate p.2 cnt.toNat n s.C).2 }) ∧
    (s.config.shiftFn = .platform → cnt = 1 →
      exec p.1 s = .next { s.after 1 ((shiftStep p.2 n s.C).1 :: rest) s.Rs with C := (shiftStep p.2 n s.C).2 }) ∧
    (s.config.shiftFn = .platform → cnt ≠ 1 →
      exec p.1 s = .next { s.after 1 ((Config.freeShift p.2 n cnt.toNat s.C).1 :: rest) s.Rs with
        C := (Config.freeShift p.2 n cnt.toNat s.C).2 })

/-- The one-bit step of each operation, as slices and concatenations (47_shifts.md R291). -/
def Obligations.OneBitSteps : Prop :=
  ∀ (n : Cell) (c : Bool),
    shiftStep .lsl n c = ((n.extractLsb' 0 63 ++ 0#1 : BitVec 64), n.getLsbD 63) ∧
    shiftStep .lsr n c = ((0#1 ++ n.extractLsb' 1 63 : BitVec 64), n.getLsbD 0) ∧
    shiftStep .asr n c = ((n.extractLsb' 63 1 ++ n.extractLsb' 1 63 : BitVec 64), n.getLsbD 0) ∧
    shiftStep .rl n c = ((n.extractLsb' 0 63 ++ n.extractLsb' 63 1 : BitVec 64), n.getLsbD 63) ∧
    shiftStep .rr n c = ((n.extractLsb' 0 1 ++ n.extractLsb' 1 63 : BitVec 64), n.getLsbD 0) ∧
    shiftStep .rlc n c = ((n.extractLsb' 0 63 ++ BitVec.ofBool c : BitVec 64), n.getLsbD 63) ∧
    shiftStep .rrc n c = ((BitVec.ofBool c ++ n.extractLsb' 1 63 : BitVec 64), n.getLsbD 0)

/-- The closed forms of a count of k, against the one-bit step applied k times (47_shifts.md R292): LSL and LSR to 64
and beyond, ASR to 63 and beyond, RL and RR modulo 64, RLC and RRC as 65-bit rotations of the carry and the cell.
Rests on the spec's own decision D9 (92_eei_decisions.md). -/
def Obligations.ShiftClosedForms : Prop :=
  ∀ (n : Cell) (c : Bool) (k : Nat),
    (k = 0 → ∀ op, shiftIterate op k n c = (n, c)) ∧
    (1 ≤ k → k ≤ 64 →
      shiftIterate .lsl k n c = (BitVec.ofNat 64 (n.toNat * 2 ^ k), n.getLsbD (64 - k)) ∧
      shiftIterate .lsr k n c = (BitVec.ofNat 64 (n.toNat / 2 ^ k), n.getLsbD (k - 1))) ∧
    (64 < k → shiftIterate .lsl k n c = (0#64, false) ∧ shiftIterate .lsr k n c = (0#64, false)) ∧
    (1 ≤ k → k ≤ 63 → shiftIterate .asr k n c = (BitVec.ofInt 64 (n.toInt / 2 ^ k), n.getLsbD (k - 1))) ∧
    (64 ≤ k → shiftIterate .asr k n c = (if n.getLsbD 63 then BitVec.allOnes 64 else 0#64, n.getLsbD 63)) ∧
    (1 ≤ k →
      shiftIterate .rl k n c = (n.rotateLeft (k % 64), (n.rotateLeft (k % 64)).getLsbD 0) ∧
      shiftIterate .rr k n c = (n.rotateRight (k % 64), (n.rotateRight (k % 64)).getLsbD 63)) ∧
    shiftIterate .rlc k n c = (((BitVec.cons c n).rotateLeft (k % 65)).setWidth 64,
      ((BitVec.cons c n).rotateLeft (k % 65)).getLsbD 64) ∧
    shiftIterate .rrc k n c = (((BitVec.cons c n).rotateRight (k % 65)).setWidth 64,
      ((BitVec.cons c n).rotateRight (k % 65)).getLsbD 64)

/-- PERMUTE (47_shifts.md R296): bit j of destination nybble d is set exactly when some source nybble i that the index
vector routes to d has its bit j set; `C` is unchanged; fewer than two cells are `Undefined`.
Rests on the spec's own decisions D7, D10 and D28 (92_eei_decisions.md). -/
def Obligations.PermuteScattersNybbles : Prop :=
  (∀ (s : State) (n idx : Cell) (rest : List Cell), s.D = idx :: n :: rest →
    ∃ r : Cell, exec .permute s = .next (s.after 1 (r :: rest) s.Rs) ∧
      ∀ d < 16, ∀ j < 4, (r.getLsbD (4 * d + j) = true ↔
        ∃ i < 16, (idx.extractLsb' (4 * i) 4).toNat = d ∧ n.getLsbD (4 * i + j) = true)) ∧
  ∀ s : State, s.D.length < 2 → exec .permute s = .fault .dstackUnderflow

/-! ### Stores and loads -/

/-- A store that is permitted writes the low bytes of its datum, the least significant at the lowest address, and no
other byte of memory; both operands are popped, the address being the top cell or, under STORE_ORDER = data_on_top, the
second (49_loads_stores.md R325 to R330, 20_memory.md R54).
Rests on the spec's own decisions D2, D12, D18 and D19 (92_eei_decisions.md). -/
def Obligations.StoresWriteLowBytes : Prop :=
  ∀ (s : State) (top second : Cell) (rest : List Cell), s.mem.wf = true → s.D = top :: second :: rest →
    (s.config.storeOrder = .addrOnTop → s.storeOperands top second = (top, second)) ∧
    (s.config.storeOrder = .dataOnTop → s.storeOperands top second = (second, top)) ∧
    ∀ p ∈ [(Instr.st8, 1), (Instr.st16, 2), (Instr.st32, 4), (Instr.st64, 8)], ∀ a x : Cell,
      s.storeOperands top second = (a, x) →
      (s.config.alignStrict = true → a.toNat % p.2 = 0) → s.access a p.2 .store = true →
      ∃ m : Memory,
        exec p.1 s = .next { s.after 1 rest s.Rs with
          mem := m
          stored := if s.config.fetchCoherent then s.stored else insertAddrs a p.2 s.stored } ∧
        (∀ i < p.2, m.get (byteAddr a i) = x.extractLsb' (8 * i) 8) ∧
        ∀ b, (∀ i < p.2, b ≠ byteAddr a i) → m.get b = s.mem.get b

/-- A load that is permitted replaces the address by its bytes, little-endian, with zeros above them for ULD and copies
of the topmost bit for SLD; memory and everything else are unchanged (49_loads_stores.md R335 to R343, 20_memory.md R53).
Rests on the spec's own decisions D2, D12, D18 and D19 (92_eei_decisions.md). -/
def Obligations.LoadsExtendTheirBytes : Prop :=
  ∀ (s : State) (a : Cell) (rest : List Cell), s.D = a :: rest →
    ∀ p ∈ [(Instr.uld8, 1, false), (Instr.sld8, 1, true), (Instr.uld16, 2, false), (Instr.sld16, 2, true),
      (Instr.uld32, 4, false), (Instr.sld32, 4, true), (Instr.uld64, 8, false), (Instr.sld64, 8, true)],
      (s.config.alignStrict = true → a.toNat % p.2.1 = 0) → s.access a p.2.1 .load = true →
      ∃ v : Cell, exec p.1 s = .next (s.after 1 (v :: rest) s.Rs) ∧
        ∀ j < 64, v.getLsbD j =
          if j < 8 * p.2.1 then (s.mem.get (byteAddr a (j / 8))).getLsbD (j % 8)
          else p.2.2 && (s.mem.get (byteAddr a (p.2.1 - 1))).getLsbD 7

/-- A store or load of a misaligned address under ALIGN_STRICT, or of an address that Access refuses, raises MEM_FAULT
with the address, the width and the kind, and changes nothing (20_memory.md R51, R57; 60_exceptions.md R356).
Rests on the spec's own decisions D14, D18 and D19 (92_eei_decisions.md). -/
def Obligations.DataAccessFaults : Prop :=
  (∀ (s : State) (top second : Cell) (rest : List Cell), s.D = top :: second :: rest →
    ∀ p ∈ [(Instr.st8, 1), (Instr.st16, 2), (Instr.st32, 4), (Instr.st64, 8)],
      (s.config.alignStrict = true ∧ (s.storeOperands top second).1.toNat % p.2 ≠ 0 ∨
        s.access (s.storeOperands top second).1 p.2 .store = false) →
      exec p.1 s = .next (s.trapped (.memFault (s.storeOperands top second).1 p.2 .store))) ∧
  (∀ (s : State) (a : Cell) (rest : List Cell), s.D = a :: rest →
    ∀ p ∈ [(Instr.uld8, 1), (Instr.sld8, 1), (Instr.uld16, 2), (Instr.sld16, 2), (Instr.uld32, 4), (Instr.sld32, 4),
      (Instr.uld64, 8), (Instr.sld64, 8)],
      (s.config.alignStrict = true ∧ a.toNat % p.2 ≠ 0 ∨ s.access a p.2 .load = false) →
      exec p.1 s = .next (s.trapped (.memFault a p.2 .load)))

/-- Accesses of different widths see memory byte by byte (20_memory.md R56): after an 8-byte write, each byte, the low
half-word and the high word read as the matching bits of the value.
Rests on the spec's own decision D2 (92_eei_decisions.md). -/
def Obligations.WidthsOverlapByteByByte : Prop :=
  ∀ (m : Memory) (a v : Cell), m.wf = true →
    (∀ k < 8, (m.write a 8 v.toNat).read (a + BitVec.ofNat 64 k) 1 = (v.extractLsb' (8 * k) 8).toNat) ∧
      (m.write a 8 v.toNat).read a 2 = (v.extractLsb' 0 16).toNat ∧
      (m.write a 8 v.toNat).read (a + 4) 4 = (v.extractLsb' 32 32).toNat

/-! ### Opcodes that are no instruction -/

/-- Each of the 74 listed illegal opcodes and of the 52 unassigned ones raises ILLEGAL_OPCODE with its byte, whatever
the latches hold, and changes nothing (30_encoding.md R96, R97; 60_exceptions.md R353).
Rests on the spec's own decisions D14 and D15 (92_eei_decisions.md). -/
def Obligations.IllegalOpcodesTrap : Prop :=
  ∀ (i : Instr) (s : State),
    (i.opcodeClass = .listedIllegal → exec i s = .next (s.trapped (.illegalOpcode i.opcode))) ∧
    (i.opcodeClass = .unassigned → exec i s = .next (s.trapped (.illegalOpcode i.opcode)))
end

