-- ==== Sys2Proof/Laws/State.lean ====
section
/-! SUPPORT. The record updates of State, one lemma per field per update, so that no proof unfolds one. -/

namespace Sys2Proof.Machine

variable (s : State)

/-! ### withD -/

@[simp] theorem State.withD_D (v : List Cell) : (s.withD v).D = v := rfl
@[simp] theorem State.withD_Rs (v : List Cell) : (s.withD v).Rs = s.Rs := rfl
@[simp] theorem State.withD_pc (v : List Cell) : (s.withD v).pc = s.pc := rfl
@[simp] theorem State.withD_C (v : List Cell) : (s.withD v).C = s.C := rfl
@[simp] theorem State.withD_condp (v : List Cell) : (s.withD v).condp = s.condp := rfl
@[simp] theorem State.withD_secp (v : List Cell) : (s.withD v).secp = s.secp := rfl
@[simp] theorem State.withD_IE (v : List Cell) : (s.withD v).IE = s.IE := rfl
@[simp] theorem State.withD_mem (v : List Cell) : (s.withD v).mem = s.mem := rfl
@[simp] theorem State.withD_platform (v : List Cell) : (s.withD v).platform = s.platform := rfl
@[simp] theorem State.withD_trap (v : List Cell) : (s.withD v).trap = s.trap := rfl
@[simp] theorem State.withD_stored (v : List Cell) : (s.withD v).stored = s.stored := rfl
@[simp] theorem State.withD_config (v : List Cell) : (s.withD v).config = s.config := rfl

/-! ### withRs -/

@[simp] theorem State.withRs_D (v : List Cell) : (s.withRs v).D = s.D := rfl
@[simp] theorem State.withRs_Rs (v : List Cell) : (s.withRs v).Rs = v := rfl
@[simp] theorem State.withRs_pc (v : List Cell) : (s.withRs v).pc = s.pc := rfl
@[simp] theorem State.withRs_C (v : List Cell) : (s.withRs v).C = s.C := rfl
@[simp] theorem State.withRs_condp (v : List Cell) : (s.withRs v).condp = s.condp := rfl
@[simp] theorem State.withRs_secp (v : List Cell) : (s.withRs v).secp = s.secp := rfl
@[simp] theorem State.withRs_IE (v : List Cell) : (s.withRs v).IE = s.IE := rfl
@[simp] theorem State.withRs_mem (v : List Cell) : (s.withRs v).mem = s.mem := rfl
@[simp] theorem State.withRs_platform (v : List Cell) : (s.withRs v).platform = s.platform := rfl
@[simp] theorem State.withRs_trap (v : List Cell) : (s.withRs v).trap = s.trap := rfl
@[simp] theorem State.withRs_stored (v : List Cell) : (s.withRs v).stored = s.stored := rfl
@[simp] theorem State.withRs_config (v : List Cell) : (s.withRs v).config = s.config := rfl

/-! ### withPc -/

@[simp] theorem State.withPc_D (v : Cell) : (s.withPc v).D = s.D := rfl
@[simp] theorem State.withPc_Rs (v : Cell) : (s.withPc v).Rs = s.Rs := rfl
@[simp] theorem State.withPc_pc (v : Cell) : (s.withPc v).pc = v := rfl
@[simp] theorem State.withPc_C (v : Cell) : (s.withPc v).C = s.C := rfl
@[simp] theorem State.withPc_condp (v : Cell) : (s.withPc v).condp = s.condp := rfl
@[simp] theorem State.withPc_secp (v : Cell) : (s.withPc v).secp = s.secp := rfl
@[simp] theorem State.withPc_IE (v : Cell) : (s.withPc v).IE = s.IE := rfl
@[simp] theorem State.withPc_mem (v : Cell) : (s.withPc v).mem = s.mem := rfl
@[simp] theorem State.withPc_platform (v : Cell) : (s.withPc v).platform = s.platform := rfl
@[simp] theorem State.withPc_trap (v : Cell) : (s.withPc v).trap = s.trap := rfl
@[simp] theorem State.withPc_stored (v : Cell) : (s.withPc v).stored = s.stored := rfl
@[simp] theorem State.withPc_config (v : Cell) : (s.withPc v).config = s.config := rfl

/-! ### withC -/

@[simp] theorem State.withC_D (v : Bool) : (s.withC v).D = s.D := rfl
@[simp] theorem State.withC_Rs (v : Bool) : (s.withC v).Rs = s.Rs := rfl
@[simp] theorem State.withC_pc (v : Bool) : (s.withC v).pc = s.pc := rfl
@[simp] theorem State.withC_C (v : Bool) : (s.withC v).C = v := rfl
@[simp] theorem State.withC_condp (v : Bool) : (s.withC v).condp = s.condp := rfl
@[simp] theorem State.withC_secp (v : Bool) : (s.withC v).secp = s.secp := rfl
@[simp] theorem State.withC_IE (v : Bool) : (s.withC v).IE = s.IE := rfl
@[simp] theorem State.withC_mem (v : Bool) : (s.withC v).mem = s.mem := rfl
@[simp] theorem State.withC_platform (v : Bool) : (s.withC v).platform = s.platform := rfl
@[simp] theorem State.withC_trap (v : Bool) : (s.withC v).trap = s.trap := rfl
@[simp] theorem State.withC_stored (v : Bool) : (s.withC v).stored = s.stored := rfl
@[simp] theorem State.withC_config (v : Bool) : (s.withC v).config = s.config := rfl

/-! ### withCondp -/

@[simp] theorem State.withCondp_D (v : Option Bool) : (s.withCondp v).D = s.D := rfl
@[simp] theorem State.withCondp_Rs (v : Option Bool) : (s.withCondp v).Rs = s.Rs := rfl
@[simp] theorem State.withCondp_pc (v : Option Bool) : (s.withCondp v).pc = s.pc := rfl
@[simp] theorem State.withCondp_C (v : Option Bool) : (s.withCondp v).C = s.C := rfl
@[simp] theorem State.withCondp_condp (v : Option Bool) : (s.withCondp v).condp = v := rfl
@[simp] theorem State.withCondp_secp (v : Option Bool) : (s.withCondp v).secp = s.secp := rfl
@[simp] theorem State.withCondp_IE (v : Option Bool) : (s.withCondp v).IE = s.IE := rfl
@[simp] theorem State.withCondp_mem (v : Option Bool) : (s.withCondp v).mem = s.mem := rfl
@[simp] theorem State.withCondp_platform (v : Option Bool) : (s.withCondp v).platform = s.platform := rfl
@[simp] theorem State.withCondp_trap (v : Option Bool) : (s.withCondp v).trap = s.trap := rfl
@[simp] theorem State.withCondp_stored (v : Option Bool) : (s.withCondp v).stored = s.stored := rfl
@[simp] theorem State.withCondp_config (v : Option Bool) : (s.withCondp v).config = s.config := rfl

/-! ### withSecp -/

@[simp] theorem State.withSecp_D (v : Bool) : (s.withSecp v).D = s.D := rfl
@[simp] theorem State.withSecp_Rs (v : Bool) : (s.withSecp v).Rs = s.Rs := rfl
@[simp] theorem State.withSecp_pc (v : Bool) : (s.withSecp v).pc = s.pc := rfl
@[simp] theorem State.withSecp_C (v : Bool) : (s.withSecp v).C = s.C := rfl
@[simp] theorem State.withSecp_condp (v : Bool) : (s.withSecp v).condp = s.condp := rfl
@[simp] theorem State.withSecp_secp (v : Bool) : (s.withSecp v).secp = v := rfl
@[simp] theorem State.withSecp_IE (v : Bool) : (s.withSecp v).IE = s.IE := rfl
@[simp] theorem State.withSecp_mem (v : Bool) : (s.withSecp v).mem = s.mem := rfl
@[simp] theorem State.withSecp_platform (v : Bool) : (s.withSecp v).platform = s.platform := rfl
@[simp] theorem State.withSecp_trap (v : Bool) : (s.withSecp v).trap = s.trap := rfl
@[simp] theorem State.withSecp_stored (v : Bool) : (s.withSecp v).stored = s.stored := rfl
@[simp] theorem State.withSecp_config (v : Bool) : (s.withSecp v).config = s.config := rfl

/-! ### withIE -/

@[simp] theorem State.withIE_D (v : Bool) : (s.withIE v).D = s.D := rfl
@[simp] theorem State.withIE_Rs (v : Bool) : (s.withIE v).Rs = s.Rs := rfl
@[simp] theorem State.withIE_pc (v : Bool) : (s.withIE v).pc = s.pc := rfl
@[simp] theorem State.withIE_C (v : Bool) : (s.withIE v).C = s.C := rfl
@[simp] theorem State.withIE_condp (v : Bool) : (s.withIE v).condp = s.condp := rfl
@[simp] theorem State.withIE_secp (v : Bool) : (s.withIE v).secp = s.secp := rfl
@[simp] theorem State.withIE_IE (v : Bool) : (s.withIE v).IE = v := rfl
@[simp] theorem State.withIE_mem (v : Bool) : (s.withIE v).mem = s.mem := rfl
@[simp] theorem State.withIE_platform (v : Bool) : (s.withIE v).platform = s.platform := rfl
@[simp] theorem State.withIE_trap (v : Bool) : (s.withIE v).trap = s.trap := rfl
@[simp] theorem State.withIE_stored (v : Bool) : (s.withIE v).stored = s.stored := rfl
@[simp] theorem State.withIE_config (v : Bool) : (s.withIE v).config = s.config := rfl

/-! ### withMem -/

@[simp] theorem State.withMem_D (v : Memory) : (s.withMem v).D = s.D := rfl
@[simp] theorem State.withMem_Rs (v : Memory) : (s.withMem v).Rs = s.Rs := rfl
@[simp] theorem State.withMem_pc (v : Memory) : (s.withMem v).pc = s.pc := rfl
@[simp] theorem State.withMem_C (v : Memory) : (s.withMem v).C = s.C := rfl
@[simp] theorem State.withMem_condp (v : Memory) : (s.withMem v).condp = s.condp := rfl
@[simp] theorem State.withMem_secp (v : Memory) : (s.withMem v).secp = s.secp := rfl
@[simp] theorem State.withMem_IE (v : Memory) : (s.withMem v).IE = s.IE := rfl
@[simp] theorem State.withMem_mem (v : Memory) : (s.withMem v).mem = v := rfl
@[simp] theorem State.withMem_platform (v : Memory) : (s.withMem v).platform = s.platform := rfl
@[simp] theorem State.withMem_trap (v : Memory) : (s.withMem v).trap = s.trap := rfl
@[simp] theorem State.withMem_stored (v : Memory) : (s.withMem v).stored = s.stored := rfl
@[simp] theorem State.withMem_config (v : Memory) : (s.withMem v).config = s.config := rfl

/-! ### withPlatform -/

@[simp] theorem State.withPlatform_D (v : Nat) : (s.withPlatform v).D = s.D := rfl
@[simp] theorem State.withPlatform_Rs (v : Nat) : (s.withPlatform v).Rs = s.Rs := rfl
@[simp] theorem State.withPlatform_pc (v : Nat) : (s.withPlatform v).pc = s.pc := rfl
@[simp] theorem State.withPlatform_C (v : Nat) : (s.withPlatform v).C = s.C := rfl
@[simp] theorem State.withPlatform_condp (v : Nat) : (s.withPlatform v).condp = s.condp := rfl
@[simp] theorem State.withPlatform_secp (v : Nat) : (s.withPlatform v).secp = s.secp := rfl
@[simp] theorem State.withPlatform_IE (v : Nat) : (s.withPlatform v).IE = s.IE := rfl
@[simp] theorem State.withPlatform_mem (v : Nat) : (s.withPlatform v).mem = s.mem := rfl
@[simp] theorem State.withPlatform_platform (v : Nat) : (s.withPlatform v).platform = v := rfl
@[simp] theorem State.withPlatform_trap (v : Nat) : (s.withPlatform v).trap = s.trap := rfl
@[simp] theorem State.withPlatform_stored (v : Nat) : (s.withPlatform v).stored = s.stored := rfl
@[simp] theorem State.withPlatform_config (v : Nat) : (s.withPlatform v).config = s.config := rfl

/-! ### withTrap -/

@[simp] theorem State.withTrap_D (v : Option Trap) : (s.withTrap v).D = s.D := rfl
@[simp] theorem State.withTrap_Rs (v : Option Trap) : (s.withTrap v).Rs = s.Rs := rfl
@[simp] theorem State.withTrap_pc (v : Option Trap) : (s.withTrap v).pc = s.pc := rfl
@[simp] theorem State.withTrap_C (v : Option Trap) : (s.withTrap v).C = s.C := rfl
@[simp] theorem State.withTrap_condp (v : Option Trap) : (s.withTrap v).condp = s.condp := rfl
@[simp] theorem State.withTrap_secp (v : Option Trap) : (s.withTrap v).secp = s.secp := rfl
@[simp] theorem State.withTrap_IE (v : Option Trap) : (s.withTrap v).IE = s.IE := rfl
@[simp] theorem State.withTrap_mem (v : Option Trap) : (s.withTrap v).mem = s.mem := rfl
@[simp] theorem State.withTrap_platform (v : Option Trap) : (s.withTrap v).platform = s.platform := rfl
@[simp] theorem State.withTrap_trap (v : Option Trap) : (s.withTrap v).trap = v := rfl
@[simp] theorem State.withTrap_stored (v : Option Trap) : (s.withTrap v).stored = s.stored := rfl
@[simp] theorem State.withTrap_config (v : Option Trap) : (s.withTrap v).config = s.config := rfl

/-! ### withStored -/

@[simp] theorem State.withStored_D (v : List Nat) : (s.withStored v).D = s.D := rfl
@[simp] theorem State.withStored_Rs (v : List Nat) : (s.withStored v).Rs = s.Rs := rfl
@[simp] theorem State.withStored_pc (v : List Nat) : (s.withStored v).pc = s.pc := rfl
@[simp] theorem State.withStored_C (v : List Nat) : (s.withStored v).C = s.C := rfl
@[simp] theorem State.withStored_condp (v : List Nat) : (s.withStored v).condp = s.condp := rfl
@[simp] theorem State.withStored_secp (v : List Nat) : (s.withStored v).secp = s.secp := rfl
@[simp] theorem State.withStored_IE (v : List Nat) : (s.withStored v).IE = s.IE := rfl
@[simp] theorem State.withStored_mem (v : List Nat) : (s.withStored v).mem = s.mem := rfl
@[simp] theorem State.withStored_platform (v : List Nat) : (s.withStored v).platform = s.platform := rfl
@[simp] theorem State.withStored_trap (v : List Nat) : (s.withStored v).trap = s.trap := rfl
@[simp] theorem State.withStored_stored (v : List Nat) : (s.withStored v).stored = v := rfl
@[simp] theorem State.withStored_config (v : List Nat) : (s.withStored v).config = s.config := rfl

/-! ### withConfig -/

@[simp] theorem State.withConfig_D (v : Config) : (s.withConfig v).D = s.D := rfl
@[simp] theorem State.withConfig_Rs (v : Config) : (s.withConfig v).Rs = s.Rs := rfl
@[simp] theorem State.withConfig_pc (v : Config) : (s.withConfig v).pc = s.pc := rfl
@[simp] theorem State.withConfig_C (v : Config) : (s.withConfig v).C = s.C := rfl
@[simp] theorem State.withConfig_condp (v : Config) : (s.withConfig v).condp = s.condp := rfl
@[simp] theorem State.withConfig_secp (v : Config) : (s.withConfig v).secp = s.secp := rfl
@[simp] theorem State.withConfig_IE (v : Config) : (s.withConfig v).IE = s.IE := rfl
@[simp] theorem State.withConfig_mem (v : Config) : (s.withConfig v).mem = s.mem := rfl
@[simp] theorem State.withConfig_platform (v : Config) : (s.withConfig v).platform = s.platform := rfl
@[simp] theorem State.withConfig_trap (v : Config) : (s.withConfig v).trap = s.trap := rfl
@[simp] theorem State.withConfig_stored (v : Config) : (s.withConfig v).stored = s.stored := rfl
@[simp] theorem State.withConfig_config (v : Config) : (s.withConfig v).config = v := rfl

/-- Two states are equal when every field is. -/
theorem State.eq_of_fields {s t : State} (hD : s.D = t.D) (hRs : s.Rs = t.Rs) (hpc : s.pc = t.pc) (hC : s.C = t.C)
    (hcondp : s.condp = t.condp) (hsecp : s.secp = t.secp) (hIE : s.IE = t.IE) (hmem : s.mem = t.mem)
    (hplatform : s.platform = t.platform) (htrap : s.trap = t.trap) (hstored : s.stored = t.stored)
    (hconfig : s.config = t.config) : s = t := by
  cases s; cases t; simp_all

end Sys2Proof.Machine
end

