-- ==== Sys2Proof/Laws/Memory.lean ====
section
/-! SUPPORT. What the memory operations do: the byte written and the bytes left alone, and that every
operation keeps the canonical form. -/

namespace Sys2Proof.Machine

/-! ### The canonical form -/

theorem Memory.wfAbove_cons {low : Nat} {c : Host.Cell} {m : Memory} :
    Memory.wfAbove low (c :: m) = true ↔
      low ≤ c.1 ∧ c.1 < 2 ^ 64 ∧ c.2 ≠ unlistedByte ∧ Memory.wfAbove (c.1 + 1) m = true := by
  simp [Memory.wfAbove, and_assoc]

/-- A canonical list that starts above a bound also starts above a smaller one. -/
theorem Memory.wfAbove_mono {low low' : Nat} {m : Memory} (h : low' ≤ low)
    (hm : Memory.wfAbove low m = true) : Memory.wfAbove low' m = true := by
  cases m with
  | nil => rfl
  | cons c m =>
    rw [Memory.wfAbove_cons] at hm ⊢
    exact ⟨le_trans h hm.1, hm.2⟩

/-- An address below every listed one reads as the unlisted byte. -/
theorem Memory.get_below {low a : Nat} {m : Memory} (hm : Memory.wfAbove low m = true) (ha : a < low) :
    m.get a = unlistedByte := by
  induction m generalizing low with
  | nil => rfl
  | cons c m ih =>
    rw [Memory.wfAbove_cons] at hm
    simp only [Memory.get]
    rw [if_neg (by omega)]
    exact ih hm.2.2.2 (by omega)

/-- `set` keeps the canonical form. -/
theorem Memory.wfAbove_set {low a : Nat} {v : Byte} {m : Memory} (hm : Memory.wfAbove low m = true)
    (hlow : low ≤ a) (ha : a < 2 ^ 64) : Memory.wfAbove low (m.set a v) = true := by
  induction m generalizing low with
  | nil =>
    simp only [Memory.set]
    split
    · rfl
    · rename_i hv
      rw [Memory.wfAbove_cons]; exact ⟨hlow, ha, hv, rfl⟩
  | cons c m ih =>
    have hm' := hm
    rw [Memory.wfAbove_cons] at hm
    simp only [Memory.set]
    split
    · rw [Memory.wfAbove_cons]
      exact ⟨hm.1, hm.2.1, hm.2.2.1, ih hm.2.2.2 (by omega)⟩
    · split
      · split
        · exact Memory.wfAbove_mono (by omega) hm.2.2.2
        · rename_i h1 h2 hv
          rw [Memory.wfAbove_cons]
          exact ⟨hlow, ha, hv, by subst h2; exact hm.2.2.2⟩
      · split
        · exact hm'
        · rename_i h1 h2 hv
          rw [Memory.wfAbove_cons]
          refine ⟨hlow, ha, hv, ?_⟩
          rw [Memory.wfAbove_cons]
          exact ⟨by show a + 1 ≤ c.1; omega, hm.2⟩

/-- `set` keeps `Memory.wf`. -/
theorem Memory.wf_set {a : Nat} {v : Byte} {m : Memory} (hm : m.wf = true) (ha : a < 2 ^ 64) :
    (m.set a v).wf = true :=
  Memory.wfAbove_set hm (Nat.zero_le a) ha

/-- Storing bytes keeps `Memory.wf`. -/
theorem Memory.wf_writeBytes {m : Memory} (a : Cell) (bs : List Byte) (hm : m.wf = true) :
    (m.writeBytes a bs).wf = true := by
  induction bs generalizing m a with
  | nil => exact hm
  | cons b bs ih => exact ih (a + 1) (Memory.wf_set hm a.isLt)

/-- A store keeps `Memory.wf`. -/
theorem Memory.wf_write {m : Memory} (a : Cell) (n v : Nat) (hm : m.wf = true) :
    (m.write a n v).wf = true :=
  Memory.wf_writeBytes a _ hm

/-- `normalise` gives a canonical memory whatever it is given. -/
theorem Memory.wf_normalise (m : Memory) : m.normalise.wf = true := by
  induction m with
  | nil => rfl
  | cons c m ih => exact Memory.wf_set ih (Nat.mod_lt _ (by norm_num))

/-! ### Reading after writing -/

/-- The byte just set is read back. -/
theorem Memory.get_set_same {low a : Nat} {v : Byte} {m : Memory} (hm : Memory.wfAbove low m = true) :
    (m.set a v).get a = v := by
  induction m generalizing low with
  | nil =>
    simp only [Memory.set]
    split
    · rename_i h; simp [Memory.get, h]
    · simp [Memory.get]
  | cons c m ih =>
    rw [Memory.wfAbove_cons] at hm
    simp only [Memory.set]
    split
    · simp only [Memory.get]; rw [if_neg (by omega)]; exact ih hm.2.2.2
    · split
      · split
        · rename_i h1 h2 hv
          rw [hv]; exact Memory.get_below hm.2.2.2 (by omega)
        · simp [Memory.get]
      · split
        · rename_i h1 h2 hv
          simp only [Memory.get]; rw [if_neg (by omega), hv]
          exact Memory.get_below hm.2.2.2 (by omega)
        · simp [Memory.get]

/-- Every other byte reads as before. -/
theorem Memory.get_set_other {a b : Nat} {v : Byte} {m : Memory} (h : b ≠ a) :
    (m.set a v).get b = m.get b := by
  induction m with
  | nil =>
    simp only [Memory.set]
    split
    · rfl
    · simp [Memory.get, Ne.symm h]
  | cons c m ih =>
    simp only [Memory.set]
    split
    · simp only [Memory.get, ih]
    · split
      · rename_i h1 h2
        split
        · simp only [Memory.get]; rw [if_neg (by omega)]
        · simp only [Memory.get]; rw [if_neg (by omega), if_neg (by omega)]
      · split
        · rfl
        · simp only [Memory.get]; rw [if_neg (Ne.symm h)]

/-- Two canonical memories that read alike are equal data. -/
theorem Memory.eq_of_get {low : Nat} {m m' : Memory} (hm : Memory.wfAbove low m = true)
    (hm' : Memory.wfAbove low m' = true) (h : ∀ a, m.get a = m'.get a) : m = m' := by
  induction m generalizing low m' with
  | nil =>
    cases m' with
    | nil => rfl
    | cons c m' =>
      rw [Memory.wfAbove_cons] at hm'
      have := h c.1
      simp [Memory.get] at this
      exact absurd this.symm hm'.2.2.1
  | cons c m ih =>
    rw [Memory.wfAbove_cons] at hm
    cases m' with
    | nil =>
      have := h c.1
      simp [Memory.get] at this
      exact absurd this hm.2.2.1
    | cons c' m' =>
      rw [Memory.wfAbove_cons] at hm'
      have hc : c.1 = c'.1 := by
        rcases Nat.lt_trichotomy c.1 c'.1 with hlt | heq | hlt
        · have := h c.1
          simp only [Memory.get, if_true] at this
          rw [if_neg (by omega), Memory.get_below hm'.2.2.2 (by omega)] at this
          exact absurd this hm.2.2.1
        · exact heq
        · have := h c'.1
          simp only [Memory.get, if_true] at this
          rw [if_neg (by omega), Memory.get_below hm.2.2.2 (by omega)] at this
          exact absurd this.symm hm'.2.2.1
      have hv : c.2 = c'.2 := by
        have := h c.1
        simpa [Memory.get, hc] using this
      have hcc : c = c' := Prod.ext hc hv
      subst hcc
      congr 1
      refine ih hm.2.2.2 hm'.2.2.2 fun a => ?_
      by_cases ha : a = c.1
      · subst ha
        rw [Memory.get_below hm.2.2.2 (by omega), Memory.get_below hm'.2.2.2 (by omega)]
      · have := h a
        simpa [Memory.get, Ne.symm ha] using this

/-- A canonical memory is its own normal form. -/
theorem Memory.normalise_of_wfAbove {low : Nat} {m : Memory} (hm : Memory.wfAbove low m = true) :
    m.normalise = m := by
  induction m generalizing low with
  | nil => rfl
  | cons c m ih =>
    rw [Memory.wfAbove_cons] at hm
    have hmod : c.1 % 2 ^ 64 = c.1 := Nat.mod_eq_of_lt hm.2.1
    have hstep : Memory.normalise (c :: m) = (Memory.normalise m).set (c.1 % 2 ^ 64) c.2 := rfl
    rw [hstep, ih hm.2.2.2, hmod]
    cases m with
    | nil => simp [Memory.set, hm.2.2.1]
    | cons d m =>
      have hd := hm.2.2.2
      rw [Memory.wfAbove_cons] at hd
      simp only [Memory.set]
      rw [if_neg (by omega), if_neg (by omega), if_neg hm.2.2.1]

/-- A canonical memory is its own normal form. -/
theorem Memory.normalise_of_wf {m : Memory} (hm : m.wf = true) : m.normalise = m :=
  Memory.normalise_of_wfAbove hm

/-! ### Runs of bytes -/

/-- The address of byte `i + 1` of an access is that of byte `i` of the access one byte on. -/
theorem byteAddr_succ (a : Cell) (i : Nat) : byteAddr (a + 1) i = byteAddr a (i + 1) := by
  unfold byteAddr
  congr 1
  rw [BitVec.add_assoc]
  congr 1
  apply BitVec.eq_of_toNat_eq
  simp [BitVec.toNat_ofNat, Nat.add_comm]

theorem byteAddr_zero (a : Cell) : byteAddr a 0 = a.toNat := by simp [byteAddr]

theorem byteAddr_lt (a : Cell) (i : Nat) : byteAddr a i < 2 ^ 64 := (a + BitVec.ofNat 64 i).isLt

/-- Two bytes of one access of at most eight bytes lie at different addresses. -/
theorem byteAddr_ne {a : Cell} {i j : Nat} (hi : i < 2 ^ 64) (hj : j < 2 ^ 64) (h : i ≠ j) :
    byteAddr a i ≠ byteAddr a j := by
  unfold byteAddr
  rw [BitVec.toNat_add, BitVec.toNat_add, BitVec.toNat_ofNat, BitVec.toNat_ofNat, Nat.mod_eq_of_lt hi,
    Nat.mod_eq_of_lt hj]
  have := a.isLt
  omega

@[simp] theorem Memory.length_readBytes (m : Memory) (a : Cell) (n : Nat) : (m.readBytes a n).length = n := by
  induction n generalizing a with
  | zero => rfl
  | succ n ih => simp [Memory.readBytes, ih]

/-- Byte `i` of a run read is the byte of memory at the run's address `i`. -/
theorem Memory.getElem?_readBytes (m : Memory) (a : Cell) (n i : Nat) :
    (m.readBytes a n)[i]? = if i < n then some (m.get (byteAddr a i)) else none := by
  induction n generalizing a i with
  | zero => simp [Memory.readBytes]
  | succ n ih =>
    cases i with
    | zero => simp [Memory.readBytes, byteAddr_zero]
    | succ i =>
      have := byteAddr_succ a i
      simp only [Memory.readBytes, List.getElem?_cons_succ, ih, this, Nat.add_lt_add_iff_right]

/-- A byte outside the run written reads as before. -/
theorem Memory.get_writeBytes_other {m : Memory} {a : Cell} {bs : List Byte} {b : Nat}
    (h : ∀ i, i < bs.length → b ≠ byteAddr a i) : (m.writeBytes a bs).get b = m.get b := by
  induction bs generalizing m a with
  | nil => rfl
  | cons c bs ih =>
    simp only [Memory.writeBytes]
    rw [ih, Memory.get_set_other]
    · have := h 0 (by simp)
      rwa [byteAddr_zero] at this
    · intro i hi
      rw [byteAddr_succ]
      exact h (i + 1) (by simpa using hi)

/-- Byte `i` of the run written reads as the byte stored there. -/
theorem Memory.get_writeBytes_same {m : Memory} {a : Cell} {bs : List Byte} {i : Nat} (hm : m.wf = true)
    (hlen : bs.length ≤ 2 ^ 64) (hi : i < bs.length) : (m.writeBytes a bs).get (byteAddr a i) = bs[i] := by
  induction bs generalizing m a i with
  | nil => simp at hi
  | cons c bs ih =>
    simp only [Memory.writeBytes]
    cases i with
    | zero =>
      rw [Memory.get_writeBytes_other, byteAddr_zero]
      · exact Memory.get_set_same hm
      · intro j hj
        rw [byteAddr_succ]
        simp only [List.length_cons] at hlen
        exact byteAddr_ne (by omega) (by omega) (by omega)
    | succ i =>
      rw [← byteAddr_succ]
      exact ih (Memory.wf_set hm a.isLt) (by simp only [List.length_cons] at hlen; omega) (by simpa using hi)

@[simp] theorem length_leBytes (n v : Nat) : (leBytes n v).length = n := by
  induction n generalizing v with
  | zero => rfl
  | succ n ih => simp [leBytes, ih]

/-- Byte `i` of a number is its bits `[8i+7:8i]`. -/
theorem getElem_leBytes {n v i : Nat} (h : i < (leBytes n v).length) :
    (leBytes n v)[i] = BitVec.ofNat 8 (v / 256 ^ i) := by
  induction n generalizing v i with
  | zero => simp [leBytes] at h
  | succ n ih =>
    cases i with
    | zero => simp [leBytes]
    | succ i =>
      simp only [leBytes, List.getElem_cons_succ]
      rw [ih, Nat.div_div_eq_div_mul, pow_succ, Nat.mul_comm]

/-- Reading back `n` little-endian bytes gives the number modulo 256^n. -/
theorem leNat_leBytes (n v : Nat) : leNat (leBytes n v) = v % 256 ^ n := by
  induction n generalizing v with
  | zero => simp [leBytes, leNat, Nat.mod_one]
  | succ n ih =>
    have h : (256 : Nat) ^ (n + 1) = 2 ^ 8 * 256 ^ n := by rw [Nat.pow_succ']; rfl
    rw [h, Nat.mod_mul, leBytes, leNat, ih, BitVec.toNat_ofNat]
    rfl

/-- Splitting a number read little-endian into bytes gives the bytes back. -/
theorem leBytes_leNat (bs : List Byte) : leBytes bs.length (leNat bs) = bs := by
  induction bs with
  | nil => rfl
  | cons b bs ih =>
    have hb := b.isLt
    simp only [List.length_cons, leBytes, leNat]
    congr 1
    · apply BitVec.eq_of_toNat_eq
      rw [BitVec.toNat_ofNat, Nat.add_mul_mod_self_left]
      exact Nat.mod_eq_of_lt hb
    · rw [Nat.add_mul_div_left _ _ (by norm_num), Nat.div_eq_of_lt (by omega)]
      simpa using ih

theorem leNat_lt (bs : List Byte) : leNat bs < 256 ^ bs.length := by
  induction bs with
  | nil => simp [leNat]
  | cons b bs ih =>
    have hb := b.isLt
    simp only [leNat, List.length_cons, pow_succ]
    omega

/-- Bytes stored at an address are read back from it. -/
theorem Memory.readBytes_writeBytes {m : Memory} {a : Cell} {bs : List Byte} (hm : m.wf = true)
    (hlen : bs.length ≤ 2 ^ 64) : (m.writeBytes a bs).readBytes a bs.length = bs := by
  apply List.ext_getElem?
  intro i
  rw [Memory.getElem?_readBytes]
  split
  · rename_i hi
    rw [Memory.get_writeBytes_same hm hlen hi, List.getElem?_eq_getElem hi]
  · rename_i hi
    rw [List.getElem?_eq_none (by omega)]

/-- A value stored is read back, cut to the width of the access. -/
theorem Memory.read_write {m : Memory} {a : Cell} {n v : Nat} (hm : m.wf = true) (hn : n ≤ 2 ^ 64) :
    (m.write a n v).read a n = v % 256 ^ n := by
  have := Memory.readBytes_writeBytes (a := a) (bs := leBytes n v) hm (by simpa using hn)
  rw [length_leBytes] at this
  simp only [Memory.read, Memory.write, this, leNat_leBytes]

/-! ### The record of stored addresses -/

theorem risingAbove_cons {low x : Nat} {xs : List Nat} :
    risingAbove low (x :: xs) = true ↔ low ≤ x ∧ x < 2 ^ 64 ∧ risingAbove (x + 1) xs = true := by
  simp [risingAbove, and_assoc]

theorem risingAbove_mono {low low' : Nat} {xs : List Nat} (h : low' ≤ low) (hx : risingAbove low xs = true) :
    risingAbove low' xs = true := by
  cases xs with
  | nil => rfl
  | cons x xs => rw [risingAbove_cons] at hx ⊢; exact ⟨le_trans h hx.1, hx.2⟩

/-- `insertAddr` keeps the list rising. -/
theorem risingAbove_insertAddr {low a : Nat} {xs : List Nat} (hx : risingAbove low xs = true) (hlow : low ≤ a)
    (ha : a < 2 ^ 64) : risingAbove low (insertAddr a xs) = true := by
  induction xs generalizing low with
  | nil => rw [insertAddr, risingAbove_cons]; exact ⟨hlow, ha, rfl⟩
  | cons x xs ih =>
    have hx' := hx
    rw [risingAbove_cons] at hx
    simp only [insertAddr]
    split
    · rw [risingAbove_cons]; exact ⟨hx.1, hx.2.1, ih hx.2.2 (by omega)⟩
    · split
      · exact hx'
      · rw [risingAbove_cons]
        refine ⟨hlow, ha, ?_⟩
        rw [risingAbove_cons]; exact ⟨by omega, hx.2⟩

/-- `insertAddrs` keeps the list rising. -/
theorem risingAbove_insertAddrs {a : Cell} {n : Nat} {xs : List Nat} (hx : risingAbove 0 xs = true) :
    risingAbove 0 (insertAddrs a n xs) = true := by
  induction n generalizing a xs with
  | zero => exact hx
  | succ n ih => exact ih (risingAbove_insertAddr hx (Nat.zero_le _) a.isLt)

theorem mem_insertAddr {a b : Nat} {xs : List Nat} : b ∈ insertAddr a xs ↔ b = a ∨ b ∈ xs := by
  induction xs with
  | nil => simp [insertAddr]
  | cons x xs ih =>
    simp only [insertAddr]
    split
    · simp only [List.mem_cons, ih]; tauto
    · split
      · rename_i h; subst h; simp
      · simp

/-- The addresses recorded are those of the access and those recorded before. -/
theorem mem_insertAddrs {a : Cell} {n b : Nat} {xs : List Nat} :
    b ∈ insertAddrs a n xs ↔ (∃ i, i < n ∧ b = byteAddr a i) ∨ b ∈ xs := by
  induction n generalizing a xs with
  | zero => simp [insertAddrs]
  | succ n ih =>
    simp only [insertAddrs, ih, mem_insertAddr]
    constructor
    · rintro (⟨i, hi, rfl⟩ | rfl | h)
      · exact .inl ⟨i + 1, by omega, byteAddr_succ a i⟩
      · exact .inl ⟨0, by omega, (byteAddr_zero a).symm⟩
      · exact .inr h
    · rintro (⟨i, hi, rfl⟩ | h)
      · cases i with
        | zero => exact .inr (.inl (byteAddr_zero a))
        | succ i => exact .inl ⟨i, by omega, (byteAddr_succ a i).symm⟩
      · exact .inr (.inr h)

end Sys2Proof.Machine
end

