-- ==== Sys2Proof/Laws/Ops.lean ====
section
/-! SUPPORT. What each shared operation can do, said once: "if it answers a next state, then …". -/

namespace Sys2Proof.Machine

/-! ### Latches, the program counter, the end of an instruction -/

@[simp] theorem State.takeLatches_D (u : LatchUse) (s : State) : (s.takeLatches u).D = s.D := by
  unfold State.takeLatches; split <;> [rfl; (cases u <;> rfl)]
@[simp] theorem State.takeLatches_Rs (u : LatchUse) (s : State) : (s.takeLatches u).Rs = s.Rs := by
  unfold State.takeLatches; split <;> [rfl; (cases u <;> rfl)]
@[simp] theorem State.takeLatches_pc (u : LatchUse) (s : State) : (s.takeLatches u).pc = s.pc := by
  unfold State.takeLatches; split <;> [rfl; (cases u <;> rfl)]
@[simp] theorem State.takeLatches_C (u : LatchUse) (s : State) : (s.takeLatches u).C = s.C := by
  unfold State.takeLatches; split <;> [rfl; (cases u <;> rfl)]
@[simp] theorem State.takeLatches_IE (u : LatchUse) (s : State) : (s.takeLatches u).IE = s.IE := by
  unfold State.takeLatches; split <;> [rfl; (cases u <;> rfl)]
@[simp] theorem State.takeLatches_mem (u : LatchUse) (s : State) : (s.takeLatches u).mem = s.mem := by
  unfold State.takeLatches; split <;> [rfl; (cases u <;> rfl)]
@[simp] theorem State.takeLatches_platform (u : LatchUse) (s : State) : (s.takeLatches u).platform = s.platform := by
  unfold State.takeLatches; split <;> [rfl; (cases u <;> rfl)]
@[simp] theorem State.takeLatches_trap (u : LatchUse) (s : State) : (s.takeLatches u).trap = s.trap := by
  unfold State.takeLatches; split <;> [rfl; (cases u <;> rfl)]
@[simp] theorem State.takeLatches_stored (u : LatchUse) (s : State) : (s.takeLatches u).stored = s.stored := by
  unfold State.takeLatches; split <;> [rfl; (cases u <;> rfl)]
@[simp] theorem State.takeLatches_config (u : LatchUse) (s : State) : (s.takeLatches u).config = s.config := by
  unfold State.takeLatches; split <;> [rfl; (cases u <;> rfl)]

/-- The COND latch after an instruction has taken the latches (R33). -/
theorem State.takeLatches_condp (u : LatchUse) (s : State) :
    (s.takeLatches u).condp =
      if s.config.prefixPersist = true ∧ u ≠ .transfer then s.condp else none := by
  unfold State.takeLatches
  cases s.config.prefixPersist <;> cases u <;> simp

/-- The SEC latch after an instruction has taken the latches (R33). -/
theorem State.takeLatches_secp (u : LatchUse) (s : State) :
    (s.takeLatches u).secp = if s.config.prefixPersist = true ∧ u ≠ .cond then s.secp else false := by
  unfold State.takeLatches
  cases s.config.prefixPersist <;> cases u <;> simp

@[simp] theorem State.advance_D (n : Nat) (s : State) : (s.advance n).D = s.D := rfl
@[simp] theorem State.advance_Rs (n : Nat) (s : State) : (s.advance n).Rs = s.Rs := rfl
@[simp] theorem State.advance_pc (n : Nat) (s : State) : (s.advance n).pc = s.pc + BitVec.ofNat 64 n := rfl
@[simp] theorem State.advance_C (n : Nat) (s : State) : (s.advance n).C = s.C := rfl
@[simp] theorem State.advance_condp (n : Nat) (s : State) : (s.advance n).condp = s.condp := rfl
@[simp] theorem State.advance_secp (n : Nat) (s : State) : (s.advance n).secp = s.secp := rfl
@[simp] theorem State.advance_IE (n : Nat) (s : State) : (s.advance n).IE = s.IE := rfl
@[simp] theorem State.advance_mem (n : Nat) (s : State) : (s.advance n).mem = s.mem := rfl
@[simp] theorem State.advance_platform (n : Nat) (s : State) : (s.advance n).platform = s.platform := rfl
@[simp] theorem State.advance_trap (n : Nat) (s : State) : (s.advance n).trap = s.trap := rfl
@[simp] theorem State.advance_stored (n : Nat) (s : State) : (s.advance n).stored = s.stored := rfl
@[simp] theorem State.advance_config (n : Nat) (s : State) : (s.advance n).config = s.config := rfl

/-- `finish` answers a next state, and this one. -/
theorem finish_next {len : Nat} {s t : State} (h : finish len s = .next t) :
    t = (s.takeLatches .plain).advance len := by
  simpa [finish, eq_comm] using h

/-! ### Traps -/

/-- Raising a trap answers the state handed over, with the trap that stands (R352). -/
theorem raiseTrap_next {tr : Trap} {s t : State} (h : raiseTrap tr s = .next t) : t = s.withTrap (some tr) := by
  simpa [raiseTrap, eq_comm] using h

/-- The environment's answer is a next state only where the platform gives a state to continue from. -/
theorem answerTrap_next {tr : Trap} {s t : State} (h : answerTrap tr s = .next t) :
    s.config.trapEnv = .platform ∧
      ∃ u, Config.trapAnswer tr (s.withTrap none) = some u ∧ t = s.adopt 0 u := by
  unfold answerTrap at h
  split at h
  · cases h
  · rename_i hp
    split at h
    · cases h
    · rename_i u hu
      refine ⟨hp, u, hu, ?_⟩
      cases h; rfl

/-- A stack cut to its capacity fits it. -/
theorem fits_fitStack (depth : Option Nat) (room : Nat) (xs : List Cell) :
    fits depth (fitStack depth room xs) = true := by
  cases depth with
  | none => rfl
  | some d => simp [fits, fitStack]

/-- A stack cut to its capacity less one cell can take one more. -/
theorem fits_cons_fitStack {depth : Option Nat} {x : Cell} {xs : List Cell} (hd : depth ≠ some 0) :
    fits depth (x :: fitStack depth 1 xs) = true := by
  cases depth with
  | none => rfl
  | some d =>
    have : d ≠ 0 := fun h => hd (by rw [h])
    simp [fits, fitStack]; omega

/-- A stack that fits its capacity with the room asked for is not cut. -/
theorem fitStack_of_fits {depth : Option Nat} {room : Nat} {xs : List Cell}
    (h : ∀ d, depth = some d → xs.length ≤ d - room) : fitStack depth room xs = xs := by
  cases depth with
  | none => rfl
  | some d => exact List.take_of_length_le (h d rfl)

/-- Adopting an environment's answer keeps the invariant, whatever the answer is. -/
theorem State.inv_adopt {s : State} (room : Nat) (t : State) (hs : risingAbove 0 s.stored = true) :
    (s.adopt room t).inv = true := by
  simp [State.inv, State.adopt, Memory.wf_normalise, fits_fitStack, hs]

/-! ### The stacks -/

theorem pushD_next {v : Cell} {s t : State} {k : State → Result} (h : pushD v s k = .next t) :
    hasRoom s.config.dsDepth s.D = true ∧ k (s.withD (v :: s.D)) = .next t := by
  unfold pushD at h
  split at h
  · exact ⟨by assumption, h⟩
  · cases h

theorem pushR_next {v : Cell} {s t : State} {k : State → Result} (h : pushR v s k = .next t) :
    hasRoom s.config.rsDepth s.Rs = true ∧ k (s.withRs (v :: s.Rs)) = .next t := by
  unfold pushR at h
  split at h
  · exact ⟨by assumption, h⟩
  · cases h

theorem popD_next {s t : State} {k : Cell → State → Result} (h : popD s k = .next t) :
    ∃ x rest, s.D = x :: rest ∧ k x (s.withD rest) = .next t := by
  unfold popD at h
  split at h
  · rename_i x rest heq; exact ⟨x, rest, heq, h⟩
  · cases h

theorem popS_next {s t : State} {k : Cell → State → Result} (h : popS s k = .next t) :
    ∃ top x rest, s.D = top :: x :: rest ∧ k x (s.withD (top :: rest)) = .next t := by
  unfold popS at h
  split at h
  · rename_i top x rest heq; exact ⟨top, x, rest, heq, h⟩
  · cases h

theorem popR_next {s t : State} {k : Cell → State → Result} (h : popR s k = .next t) :
    ∃ x rest, s.Rs = x :: rest ∧ k x (s.withRs rest) = .next t := by
  unfold popR at h
  split at h
  · rename_i x rest heq; exact ⟨x, rest, heq, h⟩
  · cases h

/-- After a push that had room the stack fits. -/
theorem fits_cons_of_hasRoom {depth : Option Nat} {x : Cell} {xs : List Cell} (h : hasRoom depth xs = true) :
    fits depth (x :: xs) = true := by
  cases depth with
  | none => rfl
  | some d => simp [hasRoom] at h; simp [fits]; omega

/-- A stack no longer than one that fits also fits. -/
theorem fits_of_length_le {depth : Option Nat} {xs ys : List Cell} (h : fits depth ys = true)
    (hl : xs.length ≤ ys.length) : fits depth xs = true := by
  cases depth with
  | none => rfl
  | some d => simp [fits] at h ⊢; omega

/-! ### Memory access -/

/-- A read is performed, or is the trap it raises (R53). -/
theorem memRead_next {s t : State} {a : Cell} {n : Nat} {k : Nat → Result} (h : memRead s a n k = .next t) :
    (s.misaligned a n = false ∧ s.access a n .load = true ∧ k (s.mem.read a n) = .next t) ∨
      ((s.misaligned a n = true ∨ s.access a n .load = false) ∧
        t = s.withTrap (some (.memFault a n .load))) := by
  unfold memRead at h
  split at h
  · rename_i hm; exact .inr ⟨.inl hm, raiseTrap_next h⟩
  · rename_i hm
    split at h
    · rename_i ha; exact .inl ⟨by simpa using hm, ha, h⟩
    · rename_i ha; exact .inr ⟨.inr (by simpa using ha), raiseTrap_next h⟩

/-- A write is performed, or is the trap it raises (R54). -/
theorem memWrite_next {s t : State} {a : Cell} {n v : Nat} {k : State → Result}
    (h : memWrite s a n v k = .next t) :
    (s.misaligned a n = false ∧ s.access a n .store = true ∧ k (s.store a n v) = .next t) ∨
      ((s.misaligned a n = true ∨ s.access a n .store = false) ∧
        t = s.withTrap (some (.memFault a n .store))) := by
  unfold memWrite at h
  split at h
  · rename_i hm; exact .inr ⟨.inl hm, raiseTrap_next h⟩
  · rename_i hm
    split at h
    · rename_i ha; exact .inl ⟨by simpa using hm, ha, h⟩
    · rename_i ha; exact .inr ⟨.inr (by simpa using ha), raiseTrap_next h⟩

/-- A fetch is performed, or is the trap it raises (R55). -/
theorem fetch_next {s t : State} {a : Cell} {n : Nat} {k : Nat → Result} (h : fetch s a n k = .next t) :
    (s.access a n .fetch = true ∧ s.fetchRefused a n = false ∧ k (s.mem.read a n) = .next t) ∨
      (s.access a n .fetch = false ∧ t = s.withTrap (some (.memFault a n .fetch))) := by
  unfold fetch at h
  split at h
  · rename_i ha
    split at h
    · cases h
    · rename_i hr; exact .inl ⟨ha, by simpa using hr, h⟩
  · rename_i ha; exact .inr ⟨by simpa using ha, raiseTrap_next h⟩

/-! ### The operand forms -/

theorem binary_next {inputs : Inputs} {f : Cell → Cell → Bool → Cell × Bool} {s t : State}
    (h : binary inputs f s = .next t) :
    ∃ x2 x1 rest, s.D = x2 :: x1 :: rest ∧
      ((inputs = .kept ∧ hasRoom s.config.dsDepth s.D = true ∧
          t = (((s.withD ((f x1 x2 s.C).1 :: s.D)).withC (f x1 x2 s.C).2).takeLatches .plain).advance 1) ∨
        (inputs = .popped ∧
          t = (((s.withD ((f x1 x2 s.C).1 :: rest)).withC (f x1 x2 s.C).2).takeLatches .plain).advance 1)) := by
  unfold binary at h
  split at h
  · rename_i x2 x1 rest heq
    refine ⟨x2, x1, rest, heq, ?_⟩
    cases inputs with
    | kept =>
      obtain ⟨hr, h⟩ := pushD_next h
      exact .inl ⟨rfl, hr, finish_next h⟩
    | popped => exact .inr ⟨rfl, finish_next h⟩
  · cases h

theorem unary_next {inputs : Inputs} {f : Cell → Cell} {s t : State} (h : unary inputs f s = .next t) :
    ∃ x1 rest, s.D = x1 :: rest ∧
      ((inputs = .kept ∧ hasRoom s.config.dsDepth s.D = true ∧
          t = ((s.withD (f x1 :: s.D)).takeLatches .plain).advance 1) ∨
        (inputs = .popped ∧ t = ((s.withD (f x1 :: rest)).takeLatches .plain).advance 1)) := by
  unfold unary at h
  split at h
  · rename_i x1 rest heq
    refine ⟨x1, rest, heq, ?_⟩
    cases inputs with
    | kept =>
      obtain ⟨hr, h⟩ := pushD_next h
      exact .inl ⟨rfl, hr, finish_next h⟩
    | popped => exact .inr ⟨rfl, finish_next h⟩
  · cases h

/-! ### The shared meanings -/

theorem trapIfCond_next {tr : Trap} {s t : State} (h : trapIfCond tr s = .next t) :
    (s.cond = true ∧ t = ((s.withCondp none).withSecp false).withTrap (some tr)) ∨
      (s.cond = false ∧ t = (s.takeLatches .transfer).advance 1) := by
  unfold trapIfCond at h
  split at h
  · rename_i hc; exact .inl ⟨hc, raiseTrap_next h⟩
  · rename_i hc; exact .inr ⟨by simpa using hc, by cases h; rfl⟩

theorem writeIE_next {b : Bool} {s t : State} (h : writeIE b s = .next t) :
    (s.config.emulateDiei = true ∧ t = s.withTrap (some (.emulation s.pc))) ∨
      (s.config.emulateDiei = false ∧ t = ((s.withIE b).takeLatches .plain).advance 1) := by
  unfold writeIE at h
  split at h
  · rename_i hc; exact .inl ⟨hc, raiseTrap_next h⟩
  · rename_i hc; exact .inr ⟨by simpa using hc, finish_next h⟩

theorem literal_next {n : Nat} {v : Cell} {s t : State} (h : literal n v s = .next t) :
    hasRoom s.config.dsDepth s.D = true ∧ t = ((s.withD (v :: s.D)).takeLatches .plain).advance (1 + n) := by
  obtain ⟨hr, h⟩ := pushD_next h
  exact ⟨hr, finish_next h⟩

theorem addressToD_next {n : Nat} {disp : Cell} {s t : State} (h : addressToD n disp s = .next t) :
    hasRoom s.config.dsDepth s.D = true ∧
      t = ((s.withD (s.relative n disp :: s.D)).takeLatches .plain).advance (1 + n) := by
  obtain ⟨hr, h⟩ := pushD_next h
  exact ⟨hr, finish_next h⟩

theorem addressToR_next {n : Nat} {disp : Cell} {s t : State} (h : addressToR n disp s = .next t) :
    hasRoom s.config.rsDepth s.Rs = true ∧
      t = ((s.withRs (s.relative n disp :: s.Rs)).takeLatches .plain).advance (1 + n) := by
  obtain ⟨hr, h⟩ := pushR_next h
  exact ⟨hr, finish_next h⟩

theorem condPrefix_next {a b c y : Bool} {s t : State} (h : condPrefix a b c y s = .next t) :
    ∃ value rest,
      ((s.secp = false ∧ s.D = value :: rest) ∨ (s.secp = true ∧ ∃ x tail, s.D = x :: value :: tail ∧ rest = x :: tail)) ∧
        t = ((((s.withD rest).takeLatches .cond).withCondp (some (condTest a b c y value s.C))).advance 1) := by
  unfold condPrefix at h
  split at h
  · rename_i hs
    obtain ⟨x, value, tail, hD, h⟩ := popS_next h
    exact ⟨value, x :: tail, .inr ⟨hs, x, tail, hD, rfl⟩, by cases h; rfl⟩
  · rename_i hs
    obtain ⟨value, rest, hD, h⟩ := popD_next h
    exact ⟨value, rest, .inl ⟨by simpa using hs, hD⟩, by cases h; rfl⟩

theorem jump_next {n : Nat} {disp : Cell} {s t : State} (h : jump n disp s = .next t) :
    (s.cond = true ∧ t = (s.takeLatches .transfer).withPc (s.relative n disp)) ∨
      (s.cond = false ∧ t = (s.takeLatches .transfer).advance (1 + n)) := by
  unfold jump at h
  split at h
  · rename_i hc; exact .inl ⟨hc, by cases h; rfl⟩
  · rename_i hc; exact .inr ⟨by simpa using hc, by cases h; rfl⟩

theorem call_next {n : Nat} {disp : Cell} {s t : State} (h : call n disp s = .next t) :
    (s.cond = true ∧ hasRoom s.config.rsDepth s.Rs = true ∧
        t = ((s.withRs ((s.pc + BitVec.ofNat 64 (1 + n)) :: s.Rs)).takeLatches .transfer).withPc (s.relative n disp)) ∨
      (s.cond = false ∧ t = (s.takeLatches .transfer).advance (1 + n)) := by
  unfold call at h
  split at h
  · rename_i hc
    obtain ⟨hr, h⟩ := pushR_next h
    exact .inl ⟨hc, hr, by cases h; rfl⟩
  · rename_i hc; exact .inr ⟨by simpa using hc, by cases h; rfl⟩

theorem storeCells_next {n : Nat} {s t : State} (h : storeCells n s = .next t) :
    ∃ top second rest, s.D = top :: second :: rest ∧
      (t = (((s.store (s.storeOperands top second).1 n (s.storeOperands top second).2.toNat).withD rest).takeLatches
          .plain).advance 1 ∨
        t = s.withTrap (some (.memFault (s.storeOperands top second).1 n .store))) := by
  unfold storeCells at h
  split at h
  · rename_i top second rest heq
    refine ⟨top, second, rest, heq, ?_⟩
    rcases memWrite_next h with ⟨-, -, h⟩ | ⟨-, h⟩
    · exact .inl (finish_next h)
    · exact .inr h
  · cases h

theorem loadCell_next {signed : Bool} {n : Nat} {s t : State} (h : loadCell signed n s = .next t) :
    ∃ a rest, s.D = a :: rest ∧
      (t = ((s.withD (extendLoaded signed n (s.mem.read a n) :: rest)).takeLatches .plain).advance 1 ∨
        t = s.withTrap (some (.memFault a n .load))) := by
  unfold loadCell at h
  split at h
  · rename_i a rest heq
    refine ⟨a, rest, heq, ?_⟩
    rcases memRead_next h with ⟨-, -, h⟩ | ⟨-, h⟩
    · exact .inl (finish_next h)
    · exact .inr h
  · cases h

theorem illegalOpcode_next {op : Byte} {s t : State} (h : illegalOpcode op s = .next t) :
    t = s.withTrap (some (.illegalOpcode op)) :=
  raiseTrap_next h

/-- One fetched instruction: executed, or a fetch that traps (R41, R361). -/
theorem fetchInstr_next {s t : State} {k : Instr → Result} (h : fetchInstr s k = .next t) :
    (∃ i, k i = .next t) ∨ t = s.withTrap (some (.memFault s.pc 1 .fetch)) ∨
      ∃ n, t = s.withTrap (some (.memFault (s.pc + 1) n .fetch)) := by
  unfold fetchInstr at h
  rcases fetch_next h with ⟨-, -, h⟩ | ⟨-, h⟩
  · simp only at h
    split at h
    · exact .inl ⟨_, h⟩
    · rcases fetch_next h with ⟨-, -, h⟩ | ⟨-, h⟩
      · exact .inl ⟨_, h⟩
      · exact .inr (.inr ⟨_, h⟩)
  · exact .inr (.inl h)

end Sys2Proof.Machine
end

