-- ==== Sys2Proof/Laws/Effect.lean ====
section
/-! SUPPORT. What one instruction can do to the state, said once: the shapes of state an instruction that
answers a next state can leave, with what each says of the stacks, the flags and the latches. -/

namespace Sys2Proof.Machine

/-- A stack fits its capacity, or is no longer than another. -/
def FitsOr (depth : Option Nat) (new old : List Cell) : Prop := fits depth new = true ∨ new.length ≤ old.length

/-- The states instruction `i` can leave from `s`, by shape. -/
inductive Effect (s : State) (i : Instr) : State → Prop where
  /-- a trap other than BRK's and SC's: nothing else changes -/
  | trap (t : Trap) (notBreakpoint : ∀ a, t ≠ .breakpoint a) (notSyscall : ∀ a, t ≠ .syscall a) :
      Effect s i (s.withTrap (some t))
  /-- the trap of BRK or SC: both latches are cleared -/
  | stop (t : Trap) (reads : i.readsCond = true) (spares : i.writesReturnStack = false)
      (which : t = .breakpoint s.pc ∨ t = .syscall s.pc) :
      Effect s i (((s.withCondp none).withSecp false).withTrap (some t))
  /-- the data stack, and for some instructions `C`, are new -/
  | data (len : Nat) (d : List Cell) (c : Bool) (notCond : i.isCond = false) (notSec : i ≠ .sec)
      (notReads : i.readsCond = false) (carry : c = s.C ∨ i.writesCarry = true)
      (stack : d = s.D ∨ i.sparesDataStack = false) (room : FitsOr s.config.dsDepth d s.D) :
      Effect s i ((((s.withD d).withC c).takeLatches .plain).advance len)
  /-- a cell is put on or taken from the return stack -/
  | move (len : Nat) (d rs : List Cell) (writes : i.writesReturnStack = true) (notCond : i.isCond = false)
      (notSec : i ≠ .sec) (notReads : i.readsCond = false) (stack : d = s.D ∨ i.sparesDataStack = false)
      (room : FitsOr s.config.dsDepth d s.D) (roomR : FitsOr s.config.rsDepth rs s.Rs) :
      Effect s i ((((s.withD d).withRs rs).takeLatches .plain).advance len)
  /-- a transfer, taken or not -/
  | transfer (target : Cell) (d rs : List Cell) (reads : i.readsCond = true)
      (stackR : rs = s.Rs ∨ i.writesReturnStack = true) (stack : d = s.D ∨ i.sparesDataStack = false)
      (room : d.length ≤ s.D.length) (roomR : FitsOr s.config.rsDepth rs s.Rs) :
      Effect s i ((((s.withD d).withRs rs).takeLatches .transfer).withPc target)
  /-- a COND -/
  | cond (d : List Cell) (b : Bool) (isCond : i.isCond = true) (room : d.length ≤ s.D.length) :
      Effect s i ((((s.withD d).takeLatches .cond).withCondp (some b)).advance 1)
  /-- SEC -/
  | sec (isSec : i = .sec) : Effect s i (((s.takeLatches .plain).withSecp true).advance 1)
  /-- DI or EI -/
  | enable (b : Bool) (which : i = .di ∨ i = .ei) : Effect s i (((s.withIE b).takeLatches .plain).advance 1)
  /-- a store -/
  | store (a : Cell) (n v : Nat) (d : List Cell) (isStore : i.isStore = true) (room : d.length ≤ s.D.length) :
      Effect s i ((((s.store a n v).withD d).takeLatches .plain).advance 1)
  /-- CRWrite's answer -/
  | wrote (t : State) (asks : i.asksEnvironment = true) : Effect s i ((s.adopt 0 t).advance 1)
  /-- CRRead's answer -/
  | read (t : State) (v : Cell) (asks : i.asksEnvironment = true) (present : s.D ≠ []) :
      Effect s i (((s.adopt 1 t).withD (v :: (s.adopt 1 t).D)).advance 1)

/-- An untaken transfer is a transfer to the byte after it. -/
theorem Effect.untaken {s : State} {i : Instr} (n : Nat) (d rs : List Cell) (reads : i.readsCond = true)
    (stackR : rs = s.Rs ∨ i.writesReturnStack = true) (stack : d = s.D ∨ i.sparesDataStack = false)
    (room : d.length ≤ s.D.length) (roomR : FitsOr s.config.rsDepth rs s.Rs) :
    Effect s i ((((s.withD d).withRs rs).takeLatches .transfer).advance n) := by
  have h := Effect.transfer (s := s) (i := i) (s.pc + BitVec.ofNat 64 n) d rs reads stackR stack room roomR
  unfold State.advance
  rw [State.takeLatches_pc]
  exact h

theorem Effect.of_binary {inputs : Inputs} {f : Cell → Cell → Bool → Cell × Bool} {s t : State} {i : Instr}
    (h : binary inputs f s = .next t) (h1 : i.isCond = false) (h2 : i ≠ .sec) (h3 : i.readsCond = false)
    (hs : i.sparesDataStack = false) (hc : (∀ a b c, (f a b c).2 = c) ∨ i.writesCarry = true) : Effect s i t := by
  obtain ⟨x2, x1, rest, hD, h⟩ := binary_next h
  have hcarry : (f x1 x2 s.C).2 = s.C ∨ i.writesCarry = true := hc.imp (fun h => h _ _ _) id
  rcases h with ⟨_, hr, rfl⟩ | ⟨_, rfl⟩
  · exact .data 1 _ _ h1 h2 h3 hcarry (.inr hs) (.inl (fits_cons_of_hasRoom hr))
  · exact .data 1 _ _ h1 h2 h3 hcarry (.inr hs) (.inr (by simp [hD]))

theorem Effect.of_unary {inputs : Inputs} {f : Cell → Cell} {s t : State} {i : Instr} (h : unary inputs f s = .next t)
    (h1 : i.isCond = false) (h2 : i ≠ .sec) (h3 : i.readsCond = false) (hs : i.sparesDataStack = false) :
    Effect s i t := by
  obtain ⟨x1, rest, hD, h⟩ := unary_next h
  rcases h with ⟨_, hr, rfl⟩ | ⟨_, rfl⟩
  · exact .data 1 _ s.C h1 h2 h3 (.inl rfl) (.inr hs) (.inl (fits_cons_of_hasRoom hr))
  · exact .data 1 _ s.C h1 h2 h3 (.inl rfl) (.inr hs) (.inr (by simp [hD]))

/-- Also for PEAD, whose meaning is the same push. -/
theorem Effect.of_literal {n : Nat} {v : Cell} {s t : State} {i : Instr} (h : literal n v s = .next t)
    (h1 : i.isCond = false) (h2 : i ≠ .sec) (h3 : i.readsCond = false) (hs : i.sparesDataStack = false) :
    Effect s i t := by
  obtain ⟨hr, rfl⟩ := literal_next h
  exact .data _ _ s.C h1 h2 h3 (.inl rfl) (.inr hs) (.inl (fits_cons_of_hasRoom hr))

theorem Effect.of_addressToR {n : Nat} {v : Cell} {s t : State} {i : Instr} (h : addressToR n v s = .next t)
    (hw : i.writesReturnStack = true) (h1 : i.isCond = false) (h2 : i ≠ .sec) (h3 : i.readsCond = false) :
    Effect s i t := by
  obtain ⟨hr, rfl⟩ := addressToR_next h
  exact .move _ s.D _ hw h1 h2 h3 (.inl rfl) (.inr le_rfl) (.inl (fits_cons_of_hasRoom hr))

theorem Effect.of_trapIfCond {tr : Trap} {s t : State} {i : Instr} (h : trapIfCond tr s = .next t)
    (h1 : i.readsCond = true) (h2 : i.writesReturnStack = false) (h3 : tr = .breakpoint s.pc ∨ tr = .syscall s.pc) :
    Effect s i t := by
  rcases trapIfCond_next h with ⟨_, rfl⟩ | ⟨_, rfl⟩
  · exact .stop tr h1 h2 h3
  · exact .untaken 1 s.D s.Rs h1 (.inl rfl) (.inl rfl) le_rfl (.inr le_rfl)

theorem Effect.of_jump {n : Nat} {disp : Cell} {s t : State} {i : Instr} (h : jump n disp s = .next t)
    (h1 : i.readsCond = true) : Effect s i t := by
  rcases jump_next h with ⟨_, rfl⟩ | ⟨_, rfl⟩
  · exact .transfer _ s.D s.Rs h1 (.inl rfl) (.inl rfl) le_rfl (.inr le_rfl)
  · exact .untaken _ s.D s.Rs h1 (.inl rfl) (.inl rfl) le_rfl (.inr le_rfl)

theorem Effect.of_call {n : Nat} {disp : Cell} {s t : State} {i : Instr} (h : call n disp s = .next t)
    (h1 : i.readsCond = true) (hw : i.writesReturnStack = true) : Effect s i t := by
  rcases call_next h with ⟨_, hr, rfl⟩ | ⟨_, rfl⟩
  · exact .transfer _ s.D _ h1 (.inr hw) (.inl rfl) le_rfl (.inl (fits_cons_of_hasRoom hr))
  · exact .untaken _ s.D s.Rs h1 (.inl rfl) (.inl rfl) le_rfl (.inr le_rfl)

theorem Effect.of_condPrefix {a b c y : Bool} {s t : State} {i : Instr} (h : condPrefix a b c y s = .next t)
    (h1 : i.isCond = true) : Effect s i t := by
  obtain ⟨v, rest, hh, rfl⟩ := condPrefix_next h
  refine .cond rest _ h1 ?_
  rcases hh with ⟨_, hD⟩ | ⟨_, x, tail, hD, rfl⟩ <;> simp [hD]

theorem Effect.of_storeCells {n : Nat} {s t : State} {i : Instr} (h : storeCells n s = .next t)
    (h1 : i.isStore = true) : Effect s i t := by
  obtain ⟨a, b, rest, hD, h⟩ := storeCells_next h
  rcases h with rfl | rfl
  · exact .store _ _ _ rest h1 (by simp [hD]; omega)
  · exact .trap _ (by simp) (by simp)

theorem Effect.of_loadCell {signed : Bool} {n : Nat} {s t : State} {i : Instr} (h : loadCell signed n s = .next t)
    (h1 : i.isCond = false) (h2 : i ≠ .sec) (h3 : i.readsCond = false) (hs : i.sparesDataStack = false) :
    Effect s i t := by
  obtain ⟨a, rest, hD, h⟩ := loadCell_next h
  rcases h with rfl | rfl
  · exact .data _ _ s.C h1 h2 h3 (.inl rfl) (.inr hs) (.inr (by simp [hD]))
  · exact .trap _ (by simp) (by simp)

theorem Effect.of_writeIE {b : Bool} {s t : State} {i : Instr} (h : writeIE b s = .next t) (h1 : i = .di ∨ i = .ei) :
    Effect s i t := by
  rcases writeIE_next h with ⟨_, rfl⟩ | ⟨_, rfl⟩
  · exact .trap _ (by simp) (by simp)
  · exact .enable b h1

theorem Effect.of_illegalOpcode {op : Byte} {s t : State} {i : Instr} (h : illegalOpcode op s = .next t) :
    Effect s i t := by
  rw [illegalOpcode_next h]
  exact .trap _ (by simp) (by simp)

theorem Effect.of_pop {s t : State} (h : execPop s = .next t) : Effect s .pop t := by
  obtain ⟨x, rest, hR, h⟩ := popR_next h
  obtain ⟨hr, h⟩ := pushD_next h
  rw [finish_next h]
  exact .move 1 (x :: s.D) rest rfl rfl (by simp) rfl (.inr rfl) (.inl (fits_cons_of_hasRoom (by simpa using hr)))
    (.inr (by simp [hR]))

theorem Effect.of_push {s t : State} (h : execPush s = .next t) : Effect s .push t := by
  obtain ⟨x, rest, hD, h⟩ := popD_next h
  obtain ⟨hr, h⟩ := pushR_next h
  rw [finish_next h]
  exact .move 1 rest (x :: s.Rs) rfl rfl (by simp) rfl (.inr rfl) (.inr (by simp [hD]))
    (.inl (fits_cons_of_hasRoom (by simpa using hr)))

theorem Effect.of_jmpdi {s t : State} (h : execJmpdi s = .next t) : Effect s .jmpdi t := by
  obtain ⟨x, rest, hD, h⟩ := popD_next h
  have hl : rest.length ≤ s.D.length := by simp [hD]
  split at h
  · cases h; exact .transfer x rest s.Rs rfl (.inl rfl) (.inr rfl) hl (.inr le_rfl)
  · cases h; exact .untaken 1 rest s.Rs rfl (.inl rfl) (.inr rfl) hl (.inr le_rfl)

theorem Effect.of_ret {s t : State} (h : execRet s = .next t) : Effect s .ret t := by
  obtain ⟨x, rest, hR, h⟩ := popR_next h
  have hl : rest.length ≤ s.Rs.length := by simp [hR]
  split at h
  · cases h; exact .transfer x s.D rest rfl (.inr rfl) (.inl rfl) le_rfl (.inr hl)
  · cases h; exact .untaken 1 s.D rest rfl (.inr rfl) (.inl rfl) le_rfl (.inr hl)

theorem Effect.of_calldi {s t : State} (h : execCalldi s = .next t) : Effect s .calldi t := by
  unfold execCalldi at h
  split at h
  · obtain ⟨x, rest, hD, h⟩ := popD_next h
    obtain ⟨hr, h⟩ := pushR_next h
    cases h
    exact .transfer x rest ((s.pc + 1) :: s.Rs) rfl (.inr rfl) (.inr rfl) (by simp [hD])
      (.inl (fits_cons_of_hasRoom (by simpa using hr)))
  · cases h; exact .untaken 1 s.D s.Rs rfl (.inr rfl) (.inl rfl) le_rfl (.inr le_rfl)

theorem Effect.of_switch {s t : State} (h : execSwitch s = .next t) : Effect s .switch t := by
  unfold execSwitch at h
  split at h
  · obtain ⟨x, rest, hR, h⟩ := popR_next h
    cases h
    exact .transfer x s.D ((s.pc + 1) :: rest) rfl (.inr rfl) (.inl rfl) le_rfl (.inr (by simp [hR]))
  · cases h; exact .untaken 1 s.D s.Rs rfl (.inr rfl) (.inl rfl) le_rfl (.inr le_rfl)

theorem Effect.of_crStore {s t : State} (h : execCrStore s = .next t) : Effect s .crStore t := by
  obtain ⟨x, rest, hD, h⟩ := popD_next h
  obtain ⟨y, rest', hD', h⟩ := popD_next h
  simp only at h
  split at h
  · rw [raiseTrap_next h]; exact .trap _ (by simp) (by simp)
  · cases h; exact .wrote _ rfl

theorem Effect.of_crFetch {s t : State} (h : execCrFetch s = .next t) : Effect s .crFetch t := by
  obtain ⟨x, rest, hD, h⟩ := popD_next h
  simp only at h
  split at h
  · rw [raiseTrap_next h]; exact .trap _ (by simp) (by simp)
  · cases h; exact .read _ _ rfl (by simp [hD])

theorem Effect.of_rFetch {s t : State} (h : execRFetch s = .next t) : Effect s .rFetch t := by
  unfold execRFetch at h
  split at h
  · obtain ⟨hr, h⟩ := pushD_next h
    rw [finish_next h]
    exact .data 1 _ s.C rfl (by simp) rfl (.inl rfl) (.inr rfl) (.inl (fits_cons_of_hasRoom hr))
  · cases h

/-- The next state of every instruction has one of the shapes of `Effect`. -/
theorem exec_effect {i : Instr} {s t : State} (h : exec i s = .next t) : Effect s i t := by
  cases i <;> simp only [exec] at h
  case brk => exact .of_trapIfCond h rfl rfl (.inl rfl)
  case sc => exact .of_trapIfCond h rfl rfl (.inr rfl)
  case pop => exact .of_pop h
  case push => exact .of_push h
  case jmpdi => exact .of_jmpdi h
  case calldi => exact .of_calldi h
  case ret => exact .of_ret h
  case switch => exact .of_switch h
  case crStore => exact .of_crStore h
  case crFetch => exact .of_crFetch h
  case di => exact .of_writeIE h (.inl rfl)
  case ei => exact .of_writeIE h (.inr rfl)
  case sec => cases h; exact .sec rfl
  case rFetch => exact .of_rFetch h
  all_goals simp only [bool2, bool1, addSub2, shift,
    execUlit8, execSlit8, execUlit16, execSlit16, execUlit32, execSlit32, execUlit64, execSlit64, execZero2,
    execTwodropZero, execTwodupAnd, execAnd, execTwodupBic, execBic, execOver2, execDrop, execTwodupSwapBic,
    execSwapBic, execDup2, execNip, execTwodupXor, execXor, execTwodupOr, execOr, execTwodupNor, execNor,
    execTwodupXnor, execXnor, execDupInvert2, execInvertNip, execTwodupInvertOr, execInvertOr, execOverInvert,
    execDropInvert, execTwodupSwapInvertOr, execSwapInvertOr, execTwodupNand, execNand, execNegOne2,
    execTwodropNegOne, execZero1, execDropZero, execDup1, execNop, execDupInvert1, execInvert, execNegOne1,
    execDropNegOne, execTwodupAdd, execAdd, execTwodupAddPlus1, execAddPlus1, execTwodupAdc, execAdc,
    execTwodupAdcMinus1, execAdcMinus1, execTwodupSubMinus1, execSubMinus1, execTwodupSub, execSub, execTwodupSbc,
    execSbc, execTwodupSbcMinus1, execSbcMinus1, execCondAlways, execCondNever, execCondC0, execCondC1,
    execCondNz, execCondZ, execCondNzC0, execCondZC1, execCondGe, execCondLt, execCondGeC0, execCondLtC1,
    execCondGt, execCondLe, execCondGtC0, execCondLeC1, execJmp8, execCall8, execJmp16, execCall16, execJmp32,
    execCall32, execJmp64, execCall64, execLsl, execLsr, execAsr, execPermute, execRl, execRlc, execRr, execRrc,
    execPear8, execPead8, execPear16, execPead16, execPear32, execPead32, execPear64, execPead64, execSt8,
    execSt16, execSt32, execSt64, execUld8, execSld8, execUld16, execSld16, execUld32, execSld32, execUld64,
    execSld64, execIllegal0F, execIllegal1D, execIllegal1F, execIllegal2F, execIllegal3D, execIllegal3F,
    execIllegal44, execIllegal45, execIllegal4F, execIllegal54, execIllegal55, execIllegal5D, execIllegal5F,
    execIllegal64, execIllegal65, execIllegal6F, execIllegal74, execIllegal75, execIllegal7D, execIllegal7F,
    execIllegal84, execIllegal85, execIllegal86, execIllegal87, execIllegal8B, execIllegal8F, execIllegal94,
    execIllegal95, execIllegal96, execIllegal97, execIllegal9B, execIllegal9D, execIllegal9F, execIllegalA4,
    execIllegalA5, execIllegalA6, execIllegalA7, execIllegalAB, execIllegalAF, execIllegalB4, execIllegalB5,
    execIllegalB6, execIllegalB7, execIllegalBB, execIllegalBD, execIllegalBF, execIllegalC4, execIllegalC5,
    execIllegalC6, execIllegalC7, execIllegalCB, execIllegalCF, execIllegalD4, execIllegalD5, execIllegalD6,
    execIllegalD7, execIllegalDB, execIllegalDD, execIllegalDF, execIllegalE0, execIllegalE4, execIllegalE5,
    execIllegalE6, execIllegalE7, execIllegalEB, execIllegalEF, execIllegalF0, execIllegalF4, execIllegalF5,
    execIllegalF6, execIllegalF7, execIllegalFB, execIllegalFD, execIllegalFF, execUnassigned81, execUnassigned88,
    execUnassigned89, execUnassigned8A, execUnassigned8C, execUnassigned8D, execUnassigned8E, execUnassigned91,
    execUnassigned98, execUnassigned99, execUnassigned9A, execUnassigned9C, execUnassigned9E, execUnassignedA1,
    execUnassignedA8, execUnassignedA9, execUnassignedAA, execUnassignedAC, execUnassignedAD, execUnassignedAE,
    execUnassignedB1, execUnassignedB8, execUnassignedB9, execUnassignedBA, execUnassignedBC, execUnassignedBE,
    execUnassignedC1, execUnassignedC8, execUnassignedC9, execUnassignedCA, execUnassignedCC, execUnassignedCD,
    execUnassignedCE, execUnassignedD1, execUnassignedD8, execUnassignedD9, execUnassignedDA, execUnassignedDC,
    execUnassignedDE, execUnassignedE1, execUnassignedE8, execUnassignedE9, execUnassignedEA, execUnassignedEC,
    execUnassignedED, execUnassignedEE, execUnassignedF1, execUnassignedF8, execUnassignedF9, execUnassignedFA,
    execUnassignedFC, execUnassignedFE] at h
  all_goals first
    | exact .of_illegalOpcode h
    | exact .of_binary h rfl (by simp) rfl rfl (.inl fun _ _ _ => rfl)
    | exact .of_binary h rfl (by simp) rfl rfl (.inr rfl)
    | exact .of_unary h rfl (by simp) rfl rfl
    | exact .of_literal h rfl (by simp) rfl rfl
    | exact .of_addressToR h rfl rfl (by simp) rfl
    | exact .of_jump h rfl
    | exact .of_call h rfl rfl
    | exact .of_condPrefix h rfl
    | exact .of_storeCells h rfl
    | exact .of_loadCell h rfl (by simp) rfl rfl

end Sys2Proof.Machine
end

