-- ==== Sys2Proof/Laws/PerInstr.lean ====
section
/-! SUPPORT. Statements made for every instruction, one lemma per constructor of Instr. -/

namespace Sys2Proof.Laws.EncodingShape

-- One thread: each of the lemmas below would otherwise take a thread of its own.
set_option Elab.async false

/-- The encoder writes as many immediate bytes as the opcode byte alone determines (30_encoding.md R80, R84). -/
def Statement (i : Instr) : Prop := i.immediate.length = immBytes i.opcode

theorem brk : Statement .brk := rfl
theorem sc : Statement .sc := rfl
theorem pop : Statement .pop := rfl
theorem push : Statement .push := rfl
theorem jmpdi : Statement .jmpdi := rfl
theorem calldi : Statement .calldi := rfl
theorem ret : Statement .ret := rfl
theorem switch : Statement .switch := rfl
theorem crStore : Statement .crStore := rfl
theorem crFetch : Statement .crFetch := rfl
theorem di : Statement .di := rfl
theorem ei : Statement .ei := rfl
theorem sec : Statement .sec := rfl
theorem rFetch : Statement .rFetch := rfl
theorem ulit8 (imm : BitVec 8) : Statement (.ulit8 imm) := by
  simp [Statement, Instr.immediate, Instr.opcode, Instr.layout, immBytes, sizeBytes]
theorem slit8 (imm : BitVec 8) : Statement (.slit8 imm) := by
  simp [Statement, Instr.immediate, Instr.opcode, Instr.layout, immBytes, sizeBytes]
theorem ulit16 (imm : BitVec 16) : Statement (.ulit16 imm) := by
  simp [Statement, Instr.immediate, Instr.opcode, Instr.layout, immBytes, sizeBytes]
theorem slit16 (imm : BitVec 16) : Statement (.slit16 imm) := by
  simp [Statement, Instr.immediate, Instr.opcode, Instr.layout, immBytes, sizeBytes]
theorem ulit32 (imm : BitVec 32) : Statement (.ulit32 imm) := by
  simp [Statement, Instr.immediate, Instr.opcode, Instr.layout, immBytes, sizeBytes]
theorem slit32 (imm : BitVec 32) : Statement (.slit32 imm) := by
  simp [Statement, Instr.immediate, Instr.opcode, Instr.layout, immBytes, sizeBytes]
theorem ulit64 (imm : BitVec 64) : Statement (.ulit64 imm) := by
  simp [Statement, Instr.immediate, Instr.opcode, Instr.layout, immBytes, sizeBytes]
theorem slit64 (imm : BitVec 64) : Statement (.slit64 imm) := by
  simp [Statement, Instr.immediate, Instr.opcode, Instr.layout, immBytes, sizeBytes]
theorem zero2 : Statement .zero2 := rfl
theorem twodropZero : Statement .twodropZero := rfl
theorem twodupAnd : Statement .twodupAnd := rfl
theorem and : Statement .and := rfl
theorem twodupBic : Statement .twodupBic := rfl
theorem bic : Statement .bic := rfl
theorem over2 : Statement .over2 := rfl
theorem drop : Statement .drop := rfl
theorem twodupSwapBic : Statement .twodupSwapBic := rfl
theorem swapBic : Statement .swapBic := rfl
theorem dup2 : Statement .dup2 := rfl
theorem nip : Statement .nip := rfl
theorem twodupXor : Statement .twodupXor := rfl
theorem xor : Statement .xor := rfl
theorem twodupOr : Statement .twodupOr := rfl
theorem or : Statement .or := rfl
theorem twodupNor : Statement .twodupNor := rfl
theorem nor : Statement .nor := rfl
theorem twodupXnor : Statement .twodupXnor := rfl
theorem xnor : Statement .xnor := rfl
theorem dupInvert2 : Statement .dupInvert2 := rfl
theorem invertNip : Statement .invertNip := rfl
theorem twodupInvertOr : Statement .twodupInvertOr := rfl
theorem invertOr : Statement .invertOr := rfl
theorem overInvert : Statement .overInvert := rfl
theorem dropInvert : Statement .dropInvert := rfl
theorem twodupSwapInvertOr : Statement .twodupSwapInvertOr := rfl
theorem swapInvertOr : Statement .swapInvertOr := rfl
theorem twodupNand : Statement .twodupNand := rfl
theorem nand : Statement .nand := rfl
theorem negOne2 : Statement .negOne2 := rfl
theorem twodropNegOne : Statement .twodropNegOne := rfl
theorem zero1 : Statement .zero1 := rfl
theorem dropZero : Statement .dropZero := rfl
theorem dup1 : Statement .dup1 := rfl
theorem nop : Statement .nop := rfl
theorem dupInvert1 : Statement .dupInvert1 := rfl
theorem invert : Statement .invert := rfl
theorem negOne1 : Statement .negOne1 := rfl
theorem dropNegOne : Statement .dropNegOne := rfl
theorem twodupAdd : Statement .twodupAdd := rfl
theorem add : Statement .add := rfl
theorem twodupAddPlus1 : Statement .twodupAddPlus1 := rfl
theorem addPlus1 : Statement .addPlus1 := rfl
theorem twodupAdc : Statement .twodupAdc := rfl
theorem adc : Statement .adc := rfl
theorem twodupAdcMinus1 : Statement .twodupAdcMinus1 := rfl
theorem adcMinus1 : Statement .adcMinus1 := rfl
theorem twodupSubMinus1 : Statement .twodupSubMinus1 := rfl
theorem subMinus1 : Statement .subMinus1 := rfl
theorem twodupSub : Statement .twodupSub := rfl
theorem sub : Statement .sub := rfl
theorem twodupSbc : Statement .twodupSbc := rfl
theorem sbc : Statement .sbc := rfl
theorem twodupSbcMinus1 : Statement .twodupSbcMinus1 := rfl
theorem sbcMinus1 : Statement .sbcMinus1 := rfl
theorem condAlways : Statement .condAlways := rfl
theorem condNever : Statement .condNever := rfl
theorem condC0 : Statement .condC0 := rfl
theorem condC1 : Statement .condC1 := rfl
theorem condNz : Statement .condNz := rfl
theorem condZ : Statement .condZ := rfl
theorem condNzC0 : Statement .condNzC0 := rfl
theorem condZC1 : Statement .condZC1 := rfl
theorem condGe : Statement .condGe := rfl
theorem condLt : Statement .condLt := rfl
theorem condGeC0 : Statement .condGeC0 := rfl
theorem condLtC1 : Statement .condLtC1 := rfl
theorem condGt : Statement .condGt := rfl
theorem condLe : Statement .condLe := rfl
theorem condGtC0 : Statement .condGtC0 := rfl
theorem condLeC1 : Statement .condLeC1 := rfl
theorem jmp8 (imm : BitVec 8) : Statement (.jmp8 imm) := by
  simp [Statement, Instr.immediate, Instr.opcode, Instr.layout, immBytes, sizeBytes]
theorem call8 (imm : BitVec 8) : Statement (.call8 imm) := by
  simp [Statement, Instr.immediate, Instr.opcode, Instr.layout, immBytes, sizeBytes]
theorem jmp16 (imm : BitVec 16) : Statement (.jmp16 imm) := by
  simp [Statement, Instr.immediate, Instr.opcode, Instr.layout, immBytes, sizeBytes]
theorem call16 (imm : BitVec 16) : Statement (.call16 imm) := by
  simp [Statement, Instr.immediate, Instr.opcode, Instr.layout, immBytes, sizeBytes]
theorem jmp32 (imm : BitVec 32) : Statement (.jmp32 imm) := by
  simp [Statement, Instr.immediate, Instr.opcode, Instr.layout, immBytes, sizeBytes]
theorem call32 (imm : BitVec 32) : Statement (.call32 imm) := by
  simp [Statement, Instr.immediate, Instr.opcode, Instr.layout, immBytes, sizeBytes]
theorem jmp64 (imm : BitVec 64) : Statement (.jmp64 imm) := by
  simp [Statement, Instr.immediate, Instr.opcode, Instr.layout, immBytes, sizeBytes]
theorem call64 (imm : BitVec 64) : Statement (.call64 imm) := by
  simp [Statement, Instr.immediate, Instr.opcode, Instr.layout, immBytes, sizeBytes]
theorem lsl : Statement .lsl := rfl
theorem lsr : Statement .lsr := rfl
theorem asr : Statement .asr := rfl
theorem permute : Statement .permute := rfl
theorem rl : Statement .rl := rfl
theorem rlc : Statement .rlc := rfl
theorem rr : Statement .rr := rfl
theorem rrc : Statement .rrc := rfl
theorem pear8 (imm : BitVec 8) : Statement (.pear8 imm) := by
  simp [Statement, Instr.immediate, Instr.opcode, Instr.layout, immBytes, sizeBytes]
theorem pead8 (imm : BitVec 8) : Statement (.pead8 imm) := by
  simp [Statement, Instr.immediate, Instr.opcode, Instr.layout, immBytes, sizeBytes]
theorem pear16 (imm : BitVec 16) : Statement (.pear16 imm) := by
  simp [Statement, Instr.immediate, Instr.opcode, Instr.layout, immBytes, sizeBytes]
theorem pead16 (imm : BitVec 16) : Statement (.pead16 imm) := by
  simp [Statement, Instr.immediate, Instr.opcode, Instr.layout, immBytes, sizeBytes]
theorem pear32 (imm : BitVec 32) : Statement (.pear32 imm) := by
  simp [Statement, Instr.immediate, Instr.opcode, Instr.layout, immBytes, sizeBytes]
theorem pead32 (imm : BitVec 32) : Statement (.pead32 imm) := by
  simp [Statement, Instr.immediate, Instr.opcode, Instr.layout, immBytes, sizeBytes]
theorem pear64 (imm : BitVec 64) : Statement (.pear64 imm) := by
  simp [Statement, Instr.immediate, Instr.opcode, Instr.layout, immBytes, sizeBytes]
theorem pead64 (imm : BitVec 64) : Statement (.pead64 imm) := by
  simp [Statement, Instr.immediate, Instr.opcode, Instr.layout, immBytes, sizeBytes]
theorem st8 : Statement .st8 := rfl
theorem st16 : Statement .st16 := rfl
theorem st32 : Statement .st32 := rfl
theorem st64 : Statement .st64 := rfl
theorem uld8 : Statement .uld8 := rfl
theorem sld8 : Statement .sld8 := rfl
theorem uld16 : Statement .uld16 := rfl
theorem sld16 : Statement .sld16 := rfl
theorem uld32 : Statement .uld32 := rfl
theorem sld32 : Statement .sld32 := rfl
theorem uld64 : Statement .uld64 := rfl
theorem sld64 : Statement .sld64 := rfl
theorem illegal0F : Statement .illegal0F := rfl
theorem illegal1D : Statement .illegal1D := rfl
theorem illegal1F : Statement .illegal1F := rfl
theorem illegal2F : Statement .illegal2F := rfl
theorem illegal3D : Statement .illegal3D := rfl
theorem illegal3F : Statement .illegal3F := rfl
theorem illegal44 : Statement .illegal44 := rfl
theorem illegal45 : Statement .illegal45 := rfl
theorem illegal4F : Statement .illegal4F := rfl
theorem illegal54 : Statement .illegal54 := rfl
theorem illegal55 : Statement .illegal55 := rfl
theorem illegal5D : Statement .illegal5D := rfl
theorem illegal5F : Statement .illegal5F := rfl
theorem illegal64 : Statement .illegal64 := rfl
theorem illegal65 : Statement .illegal65 := rfl
theorem illegal6F : Statement .illegal6F := rfl
theorem illegal74 : Statement .illegal74 := rfl
theorem illegal75 : Statement .illegal75 := rfl
theorem illegal7D : Statement .illegal7D := rfl
theorem illegal7F : Statement .illegal7F := rfl
theorem illegal84 : Statement .illegal84 := rfl
theorem illegal85 : Statement .illegal85 := rfl
theorem illegal86 : Statement .illegal86 := rfl
theorem illegal87 : Statement .illegal87 := rfl
theorem illegal8B : Statement .illegal8B := rfl
theorem illegal8F : Statement .illegal8F := rfl
theorem illegal94 : Statement .illegal94 := rfl
theorem illegal95 : Statement .illegal95 := rfl
theorem illegal96 : Statement .illegal96 := rfl
theorem illegal97 : Statement .illegal97 := rfl
theorem illegal9B : Statement .illegal9B := rfl
theorem illegal9D : Statement .illegal9D := rfl
theorem illegal9F : Statement .illegal9F := rfl
theorem illegalA4 : Statement .illegalA4 := rfl
theorem illegalA5 : Statement .illegalA5 := rfl
theorem illegalA6 : Statement .illegalA6 := rfl
theorem illegalA7 : Statement .illegalA7 := rfl
theorem illegalAB : Statement .illegalAB := rfl
theorem illegalAF : Statement .illegalAF := rfl
theorem illegalB4 : Statement .illegalB4 := rfl
theorem illegalB5 : Statement .illegalB5 := rfl
theorem illegalB6 : Statement .illegalB6 := rfl
theorem illegalB7 : Statement .illegalB7 := rfl
theorem illegalBB : Statement .illegalBB := rfl
theorem illegalBD : Statement .illegalBD := rfl
theorem illegalBF : Statement .illegalBF := rfl
theorem illegalC4 : Statement .illegalC4 := rfl
theorem illegalC5 : Statement .illegalC5 := rfl
theorem illegalC6 : Statement .illegalC6 := rfl
theorem illegalC7 : Statement .illegalC7 := rfl
theorem illegalCB : Statement .illegalCB := rfl
theorem illegalCF : Statement .illegalCF := rfl
theorem illegalD4 : Statement .illegalD4 := rfl
theorem illegalD5 : Statement .illegalD5 := rfl
theorem illegalD6 : Statement .illegalD6 := rfl
theorem illegalD7 : Statement .illegalD7 := rfl
theorem illegalDB : Statement .illegalDB := rfl
theorem illegalDD : Statement .illegalDD := rfl
theorem illegalDF : Statement .illegalDF := rfl
theorem illegalE0 : Statement .illegalE0 := rfl
theorem illegalE4 : Statement .illegalE4 := rfl
theorem illegalE5 : Statement .illegalE5 := rfl
theorem illegalE6 : Statement .illegalE6 := rfl
theorem illegalE7 : Statement .illegalE7 := rfl
theorem illegalEB : Statement .illegalEB := rfl
theorem illegalEF : Statement .illegalEF := rfl
theorem illegalF0 : Statement .illegalF0 := rfl
theorem illegalF4 : Statement .illegalF4 := rfl
theorem illegalF5 : Statement .illegalF5 := rfl
theorem illegalF6 : Statement .illegalF6 := rfl
theorem illegalF7 : Statement .illegalF7 := rfl
theorem illegalFB : Statement .illegalFB := rfl
theorem illegalFD : Statement .illegalFD := rfl
theorem illegalFF : Statement .illegalFF := rfl
theorem unassigned81 : Statement .unassigned81 := rfl
theorem unassigned88 : Statement .unassigned88 := rfl
theorem unassigned89 : Statement .unassigned89 := rfl
theorem unassigned8A : Statement .unassigned8A := rfl
theorem unassigned8C : Statement .unassigned8C := rfl
theorem unassigned8D : Statement .unassigned8D := rfl
theorem unassigned8E : Statement .unassigned8E := rfl
theorem unassigned91 : Statement .unassigned91 := rfl
theorem unassigned98 : Statement .unassigned98 := rfl
theorem unassigned99 : Statement .unassigned99 := rfl
theorem unassigned9A : Statement .unassigned9A := rfl
theorem unassigned9C : Statement .unassigned9C := rfl
theorem unassigned9E : Statement .unassigned9E := rfl
theorem unassignedA1 : Statement .unassignedA1 := rfl
theorem unassignedA8 : Statement .unassignedA8 := rfl
theorem unassignedA9 : Statement .unassignedA9 := rfl
theorem unassignedAA : Statement .unassignedAA := rfl
theorem unassignedAC : Statement .unassignedAC := rfl
theorem unassignedAD : Statement .unassignedAD := rfl
theorem unassignedAE : Statement .unassignedAE := rfl
theorem unassignedB1 : Statement .unassignedB1 := rfl
theorem unassignedB8 : Statement .unassignedB8 := rfl
theorem unassignedB9 : Statement .unassignedB9 := rfl
theorem unassignedBA : Statement .unassignedBA := rfl
theorem unassignedBC : Statement .unassignedBC := rfl
theorem unassignedBE : Statement .unassignedBE := rfl
theorem unassignedC1 : Statement .unassignedC1 := rfl
theorem unassignedC8 : Statement .unassignedC8 := rfl
theorem unassignedC9 : Statement .unassignedC9 := rfl
theorem unassignedCA : Statement .unassignedCA := rfl
theorem unassignedCC : Statement .unassignedCC := rfl
theorem unassignedCD : Statement .unassignedCD := rfl
theorem unassignedCE : Statement .unassignedCE := rfl
theorem unassignedD1 : Statement .unassignedD1 := rfl
theorem unassignedD8 : Statement .unassignedD8 := rfl
theorem unassignedD9 : Statement .unassignedD9 := rfl
theorem unassignedDA : Statement .unassignedDA := rfl
theorem unassignedDC : Statement .unassignedDC := rfl
theorem unassignedDE : Statement .unassignedDE := rfl
theorem unassignedE1 : Statement .unassignedE1 := rfl
theorem unassignedE8 : Statement .unassignedE8 := rfl
theorem unassignedE9 : Statement .unassignedE9 := rfl
theorem unassignedEA : Statement .unassignedEA := rfl
theorem unassignedEC : Statement .unassignedEC := rfl
theorem unassignedED : Statement .unassignedED := rfl
theorem unassignedEE : Statement .unassignedEE := rfl
theorem unassignedF1 : Statement .unassignedF1 := rfl
theorem unassignedF8 : Statement .unassignedF8 := rfl
theorem unassignedF9 : Statement .unassignedF9 := rfl
theorem unassignedFA : Statement .unassignedFA := rfl
theorem unassignedFC : Statement .unassignedFC := rfl
theorem unassignedFE : Statement .unassignedFE := rfl

end Sys2Proof.Laws.EncodingShape
end

