-- ==== Sys2Proof/Tests/Slice0.lean ====
section
/-! SUPPORT. The model's own tests. Every expected result is taken from spec/: the bit patterns of
30_encoding.md and the opcode table, and the vectors of 95_test_vectors.md, named in the comments.
The theorems `witness_…` give, for every obligation that has hypotheses, states and operands that
meet them. -/

namespace Sys2Proof.Tests

open Sys2Proof.Machine

set_option Elab.async false

/-! ### WellFormed: each check refuses a term that is no instruction, and neither refuses one that is -/

theorem test_wellFormed_refuses_a_listed_illegal_opcode :
    Instr.illegal0F.notListedIllegal = false ∧ Instr.illegal0F.wellFormed = false := by decide
theorem test_wellFormed_refuses_an_unassigned_opcode :
    Instr.unassigned81.notUnassigned = false ∧ Instr.unassigned81.wellFormed = false := by decide
theorem test_wellFormed_accepts_instructions :
    Instr.brk.wellFormed = true ∧ (Instr.slit8 0x88#8).wellFormed = true ∧ Instr.rFetch.wellFormed = true := by decide

/-! ### Decoding: the word of every constructor, written bit by bit from the opcode table, column by
column of the opcode map (R99). Immediates are laid out little-endian (R95). -/

theorem test_decode_column_0_low :
    decode [0b00000000#8] = .ok (.brk, []) ∧
    decode [0b00010000#8] = .ok (.sc, []) ∧
    decode [0b00100000#8] = .ok (.pop, []) ∧
    decode [0b00110000#8] = .ok (.push, []) ∧
    decode [0b01000000#8] = .ok (.jmpdi, []) ∧
    decode [0b01010000#8] = .ok (.calldi, []) ∧
    decode [0b01100000#8] = .ok (.ret, []) ∧
    decode [0b01110000#8] = .ok (.switch, []) := by decide
theorem test_decode_column_0_high :
    decode [0b10000000#8] = .ok (.crStore, []) ∧
    decode [0b10010000#8] = .ok (.crFetch, []) ∧
    decode [0b10100000#8] = .ok (.di, []) ∧
    decode [0b10110000#8] = .ok (.ei, []) ∧
    decode [0b11000000#8] = .ok (.sec, []) ∧
    decode [0b11010000#8] = .ok (.rFetch, []) ∧
    decode [0b11100000#8] = .ok (.illegalE0, []) ∧
    decode [0b11110000#8] = .ok (.illegalF0, []) := by decide
theorem test_decode_column_1_low :
    decode [0b00000001#8, 0x88#8] = .ok (.ulit8 0x88#8, []) ∧
    decode [0b00010001#8, 0x88#8] = .ok (.slit8 0x88#8, []) ∧
    decode [0b00100001#8, 0x34#8, 0x12#8] = .ok (.ulit16 0x1234#16, []) ∧
    decode [0b00110001#8, 0x34#8, 0x12#8] = .ok (.slit16 0x1234#16, []) ∧
    decode [0b01000001#8, 0x78#8, 0x56#8, 0x34#8, 0x12#8] = .ok (.ulit32 0x12345678#32, []) ∧
    decode [0b01010001#8, 0x78#8, 0x56#8, 0x34#8, 0x12#8] = .ok (.slit32 0x12345678#32, []) ∧
    decode [0b01100001#8, 0xEF#8, 0xCD#8, 0xAB#8, 0x89#8, 0x67#8, 0x45#8, 0x23#8, 0x01#8] = .ok (.ulit64 0x0123456789ABCDEF#64, []) ∧
    decode [0b01110001#8, 0xEF#8, 0xCD#8, 0xAB#8, 0x89#8, 0x67#8, 0x45#8, 0x23#8, 0x01#8] = .ok (.slit64 0x0123456789ABCDEF#64, []) := by decide
theorem test_decode_column_1_high :
    decode [0b10000001#8] = .ok (.unassigned81, []) ∧
    decode [0b10010001#8] = .ok (.unassigned91, []) ∧
    decode [0b10100001#8] = .ok (.unassignedA1, []) ∧
    decode [0b10110001#8] = .ok (.unassignedB1, []) ∧
    decode [0b11000001#8] = .ok (.unassignedC1, []) ∧
    decode [0b11010001#8] = .ok (.unassignedD1, []) ∧
    decode [0b11100001#8] = .ok (.unassignedE1, []) ∧
    decode [0b11110001#8] = .ok (.unassignedF1, []) := by decide
theorem test_decode_column_2_low :
    decode [0b00000010#8] = .ok (.zero2, []) ∧
    decode [0b00010010#8] = .ok (.twodupAnd, []) ∧
    decode [0b00100010#8] = .ok (.twodupBic, []) ∧
    decode [0b00110010#8] = .ok (.over2, []) ∧
    decode [0b01000010#8] = .ok (.twodupSwapBic, []) ∧
    decode [0b01010010#8] = .ok (.dup2, []) ∧
    decode [0b01100010#8] = .ok (.twodupXor, []) ∧
    decode [0b01110010#8] = .ok (.twodupOr, []) := by decide
theorem test_decode_column_2_high :
    decode [0b10000010#8] = .ok (.twodupNor, []) ∧
    decode [0b10010010#8] = .ok (.twodupXnor, []) ∧
    decode [0b10100010#8] = .ok (.dupInvert2, []) ∧
    decode [0b10110010#8] = .ok (.twodupInvertOr, []) ∧
    decode [0b11000010#8] = .ok (.overInvert, []) ∧
    decode [0b11010010#8] = .ok (.twodupSwapInvertOr, []) ∧
    decode [0b11100010#8] = .ok (.twodupNand, []) ∧
    decode [0b11110010#8] = .ok (.negOne2, []) := by decide
theorem test_decode_column_3_low :
    decode [0b00000011#8] = .ok (.twodropZero, []) ∧
    decode [0b00010011#8] = .ok (.and, []) ∧
    decode [0b00100011#8] = .ok (.bic, []) ∧
    decode [0b00110011#8] = .ok (.drop, []) ∧
    decode [0b01000011#8] = .ok (.swapBic, []) ∧
    decode [0b01010011#8] = .ok (.nip, []) ∧
    decode [0b01100011#8] = .ok (.xor, []) ∧
    decode [0b01110011#8] = .ok (.or, []) := by decide
theorem test_decode_column_3_high :
    decode [0b10000011#8] = .ok (.nor, []) ∧
    decode [0b10010011#8] = .ok (.xnor, []) ∧
    decode [0b10100011#8] = .ok (.invertNip, []) ∧
    decode [0b10110011#8] = .ok (.invertOr, []) ∧
    decode [0b11000011#8] = .ok (.dropInvert, []) ∧
    decode [0b11010011#8] = .ok (.swapInvertOr, []) ∧
    decode [0b11100011#8] = .ok (.nand, []) ∧
    decode [0b11110011#8] = .ok (.twodropNegOne, []) := by decide
theorem test_decode_column_4_low :
    decode [0b00000100#8] = .ok (.zero1, []) ∧
    decode [0b00010100#8] = .ok (.dup1, []) ∧
    decode [0b00100100#8] = .ok (.dupInvert1, []) ∧
    decode [0b00110100#8] = .ok (.negOne1, []) ∧
    decode [0b01000100#8] = .ok (.illegal44, []) ∧
    decode [0b01010100#8] = .ok (.illegal54, []) ∧
    decode [0b01100100#8] = .ok (.illegal64, []) ∧
    decode [0b01110100#8] = .ok (.illegal74, []) := by decide
theorem test_decode_column_4_high :
    decode [0b10000100#8] = .ok (.illegal84, []) ∧
    decode [0b10010100#8] = .ok (.illegal94, []) ∧
    decode [0b10100100#8] = .ok (.illegalA4, []) ∧
    decode [0b10110100#8] = .ok (.illegalB4, []) ∧
    decode [0b11000100#8] = .ok (.illegalC4, []) ∧
    decode [0b11010100#8] = .ok (.illegalD4, []) ∧
    decode [0b11100100#8] = .ok (.illegalE4, []) ∧
    decode [0b11110100#8] = .ok (.illegalF4, []) := by decide
theorem test_decode_column_5_low :
    decode [0b00000101#8] = .ok (.dropZero, []) ∧
    decode [0b00010101#8] = .ok (.nop, []) ∧
    decode [0b00100101#8] = .ok (.invert, []) ∧
    decode [0b00110101#8] = .ok (.dropNegOne, []) ∧
    decode [0b01000101#8] = .ok (.illegal45, []) ∧
    decode [0b01010101#8] = .ok (.illegal55, []) ∧
    decode [0b01100101#8] = .ok (.illegal65, []) ∧
    decode [0b01110101#8] = .ok (.illegal75, []) := by decide
theorem test_decode_column_5_high :
    decode [0b10000101#8] = .ok (.illegal85, []) ∧
    decode [0b10010101#8] = .ok (.illegal95, []) ∧
    decode [0b10100101#8] = .ok (.illegalA5, []) ∧
    decode [0b10110101#8] = .ok (.illegalB5, []) ∧
    decode [0b11000101#8] = .ok (.illegalC5, []) ∧
    decode [0b11010101#8] = .ok (.illegalD5, []) ∧
    decode [0b11100101#8] = .ok (.illegalE5, []) ∧
    decode [0b11110101#8] = .ok (.illegalF5, []) := by decide
theorem test_decode_column_6_low :
    decode [0b00000110#8] = .ok (.twodupAdd, []) ∧
    decode [0b00010110#8] = .ok (.twodupAddPlus1, []) ∧
    decode [0b00100110#8] = .ok (.twodupAdc, []) ∧
    decode [0b00110110#8] = .ok (.twodupAdcMinus1, []) ∧
    decode [0b01000110#8] = .ok (.twodupSubMinus1, []) ∧
    decode [0b01010110#8] = .ok (.twodupSub, []) ∧
    decode [0b01100110#8] = .ok (.twodupSbc, []) ∧
    decode [0b01110110#8] = .ok (.twodupSbcMinus1, []) := by decide
theorem test_decode_column_6_high :
    decode [0b10000110#8] = .ok (.illegal86, []) ∧
    decode [0b10010110#8] = .ok (.illegal96, []) ∧
    decode [0b10100110#8] = .ok (.illegalA6, []) ∧
    decode [0b10110110#8] = .ok (.illegalB6, []) ∧
    decode [0b11000110#8] = .ok (.illegalC6, []) ∧
    decode [0b11010110#8] = .ok (.illegalD6, []) ∧
    decode [0b11100110#8] = .ok (.illegalE6, []) ∧
    decode [0b11110110#8] = .ok (.illegalF6, []) := by decide
theorem test_decode_column_7_low :
    decode [0b00000111#8] = .ok (.add, []) ∧
    decode [0b00010111#8] = .ok (.addPlus1, []) ∧
    decode [0b00100111#8] = .ok (.adc, []) ∧
    decode [0b00110111#8] = .ok (.adcMinus1, []) ∧
    decode [0b01000111#8] = .ok (.subMinus1, []) ∧
    decode [0b01010111#8] = .ok (.sub, []) ∧
    decode [0b01100111#8] = .ok (.sbc, []) ∧
    decode [0b01110111#8] = .ok (.sbcMinus1, []) := by decide
theorem test_decode_column_7_high :
    decode [0b10000111#8] = .ok (.illegal87, []) ∧
    decode [0b10010111#8] = .ok (.illegal97, []) ∧
    decode [0b10100111#8] = .ok (.illegalA7, []) ∧
    decode [0b10110111#8] = .ok (.illegalB7, []) ∧
    decode [0b11000111#8] = .ok (.illegalC7, []) ∧
    decode [0b11010111#8] = .ok (.illegalD7, []) ∧
    decode [0b11100111#8] = .ok (.illegalE7, []) ∧
    decode [0b11110111#8] = .ok (.illegalF7, []) := by decide
theorem test_decode_column_8_low :
    decode [0b00001000#8] = .ok (.condAlways, []) ∧
    decode [0b00011000#8] = .ok (.condC0, []) ∧
    decode [0b00101000#8] = .ok (.condNz, []) ∧
    decode [0b00111000#8] = .ok (.condNzC0, []) ∧
    decode [0b01001000#8] = .ok (.condGe, []) ∧
    decode [0b01011000#8] = .ok (.condGeC0, []) ∧
    decode [0b01101000#8] = .ok (.condGt, []) ∧
    decode [0b01111000#8] = .ok (.condGtC0, []) := by decide
theorem test_decode_column_8_high :
    decode [0b10001000#8] = .ok (.unassigned88, []) ∧
    decode [0b10011000#8] = .ok (.unassigned98, []) ∧
    decode [0b10101000#8] = .ok (.unassignedA8, []) ∧
    decode [0b10111000#8] = .ok (.unassignedB8, []) ∧
    decode [0b11001000#8] = .ok (.unassignedC8, []) ∧
    decode [0b11011000#8] = .ok (.unassignedD8, []) ∧
    decode [0b11101000#8] = .ok (.unassignedE8, []) ∧
    decode [0b11111000#8] = .ok (.unassignedF8, []) := by decide
theorem test_decode_column_9_low :
    decode [0b00001001#8] = .ok (.condNever, []) ∧
    decode [0b00011001#8] = .ok (.condC1, []) ∧
    decode [0b00101001#8] = .ok (.condZ, []) ∧
    decode [0b00111001#8] = .ok (.condZC1, []) ∧
    decode [0b01001001#8] = .ok (.condLt, []) ∧
    decode [0b01011001#8] = .ok (.condLtC1, []) ∧
    decode [0b01101001#8] = .ok (.condLe, []) ∧
    decode [0b01111001#8] = .ok (.condLeC1, []) := by decide
theorem test_decode_column_9_high :
    decode [0b10001001#8] = .ok (.unassigned89, []) ∧
    decode [0b10011001#8] = .ok (.unassigned99, []) ∧
    decode [0b10101001#8] = .ok (.unassignedA9, []) ∧
    decode [0b10111001#8] = .ok (.unassignedB9, []) ∧
    decode [0b11001001#8] = .ok (.unassignedC9, []) ∧
    decode [0b11011001#8] = .ok (.unassignedD9, []) ∧
    decode [0b11101001#8] = .ok (.unassignedE9, []) ∧
    decode [0b11111001#8] = .ok (.unassignedF9, []) := by decide
theorem test_decode_column_10_low :
    decode [0b00001010#8, 0x88#8] = .ok (.jmp8 0x88#8, []) ∧
    decode [0b00011010#8, 0x88#8] = .ok (.call8 0x88#8, []) ∧
    decode [0b00101010#8, 0x34#8, 0x12#8] = .ok (.jmp16 0x1234#16, []) ∧
    decode [0b00111010#8, 0x34#8, 0x12#8] = .ok (.call16 0x1234#16, []) ∧
    decode [0b01001010#8, 0x78#8, 0x56#8, 0x34#8, 0x12#8] = .ok (.jmp32 0x12345678#32, []) ∧
    decode [0b01011010#8, 0x78#8, 0x56#8, 0x34#8, 0x12#8] = .ok (.call32 0x12345678#32, []) ∧
    decode [0b01101010#8, 0xEF#8, 0xCD#8, 0xAB#8, 0x89#8, 0x67#8, 0x45#8, 0x23#8, 0x01#8] = .ok (.jmp64 0x0123456789ABCDEF#64, []) ∧
    decode [0b01111010#8, 0xEF#8, 0xCD#8, 0xAB#8, 0x89#8, 0x67#8, 0x45#8, 0x23#8, 0x01#8] = .ok (.call64 0x0123456789ABCDEF#64, []) := by decide
theorem test_decode_column_10_high :
    decode [0b10001010#8] = .ok (.unassigned8A, []) ∧
    decode [0b10011010#8] = .ok (.unassigned9A, []) ∧
    decode [0b10101010#8] = .ok (.unassignedAA, []) ∧
    decode [0b10111010#8] = .ok (.unassignedBA, []) ∧
    decode [0b11001010#8] = .ok (.unassignedCA, []) ∧
    decode [0b11011010#8] = .ok (.unassignedDA, []) ∧
    decode [0b11101010#8] = .ok (.unassignedEA, []) ∧
    decode [0b11111010#8] = .ok (.unassignedFA, []) := by decide
theorem test_decode_column_11_low :
    decode [0b00001011#8] = .ok (.lsl, []) ∧
    decode [0b00011011#8] = .ok (.lsr, []) ∧
    decode [0b00101011#8] = .ok (.asr, []) ∧
    decode [0b00111011#8] = .ok (.permute, []) ∧
    decode [0b01001011#8] = .ok (.rl, []) ∧
    decode [0b01011011#8] = .ok (.rlc, []) ∧
    decode [0b01101011#8] = .ok (.rr, []) ∧
    decode [0b01111011#8] = .ok (.rrc, []) := by decide
theorem test_decode_column_11_high :
    decode [0b10001011#8] = .ok (.illegal8B, []) ∧
    decode [0b10011011#8] = .ok (.illegal9B, []) ∧
    decode [0b10101011#8] = .ok (.illegalAB, []) ∧
    decode [0b10111011#8] = .ok (.illegalBB, []) ∧
    decode [0b11001011#8] = .ok (.illegalCB, []) ∧
    decode [0b11011011#8] = .ok (.illegalDB, []) ∧
    decode [0b11101011#8] = .ok (.illegalEB, []) ∧
    decode [0b11111011#8] = .ok (.illegalFB, []) := by decide
theorem test_decode_column_12_low :
    decode [0b00001100#8, 0x88#8] = .ok (.pear8 0x88#8, []) ∧
    decode [0b00011100#8, 0x88#8] = .ok (.pead8 0x88#8, []) ∧
    decode [0b00101100#8, 0x34#8, 0x12#8] = .ok (.pear16 0x1234#16, []) ∧
    decode [0b00111100#8, 0x34#8, 0x12#8] = .ok (.pead16 0x1234#16, []) ∧
    decode [0b01001100#8, 0x78#8, 0x56#8, 0x34#8, 0x12#8] = .ok (.pear32 0x12345678#32, []) ∧
    decode [0b01011100#8, 0x78#8, 0x56#8, 0x34#8, 0x12#8] = .ok (.pead32 0x12345678#32, []) ∧
    decode [0b01101100#8, 0xEF#8, 0xCD#8, 0xAB#8, 0x89#8, 0x67#8, 0x45#8, 0x23#8, 0x01#8] = .ok (.pear64 0x0123456789ABCDEF#64, []) ∧
    decode [0b01111100#8, 0xEF#8, 0xCD#8, 0xAB#8, 0x89#8, 0x67#8, 0x45#8, 0x23#8, 0x01#8] = .ok (.pead64 0x0123456789ABCDEF#64, []) := by decide
theorem test_decode_column_12_high :
    decode [0b10001100#8] = .ok (.unassigned8C, []) ∧
    decode [0b10011100#8] = .ok (.unassigned9C, []) ∧
    decode [0b10101100#8] = .ok (.unassignedAC, []) ∧
    decode [0b10111100#8] = .ok (.unassignedBC, []) ∧
    decode [0b11001100#8] = .ok (.unassignedCC, []) ∧
    decode [0b11011100#8] = .ok (.unassignedDC, []) ∧
    decode [0b11101100#8] = .ok (.unassignedEC, []) ∧
    decode [0b11111100#8] = .ok (.unassignedFC, []) := by decide
theorem test_decode_column_13_low :
    decode [0b00001101#8] = .ok (.st8, []) ∧
    decode [0b00011101#8] = .ok (.illegal1D, []) ∧
    decode [0b00101101#8] = .ok (.st16, []) ∧
    decode [0b00111101#8] = .ok (.illegal3D, []) ∧
    decode [0b01001101#8] = .ok (.st32, []) ∧
    decode [0b01011101#8] = .ok (.illegal5D, []) ∧
    decode [0b01101101#8] = .ok (.st64, []) ∧
    decode [0b01111101#8] = .ok (.illegal7D, []) := by decide
theorem test_decode_column_13_high :
    decode [0b10001101#8] = .ok (.unassigned8D, []) ∧
    decode [0b10011101#8] = .ok (.illegal9D, []) ∧
    decode [0b10101101#8] = .ok (.unassignedAD, []) ∧
    decode [0b10111101#8] = .ok (.illegalBD, []) ∧
    decode [0b11001101#8] = .ok (.unassignedCD, []) ∧
    decode [0b11011101#8] = .ok (.illegalDD, []) ∧
    decode [0b11101101#8] = .ok (.unassignedED, []) ∧
    decode [0b11111101#8] = .ok (.illegalFD, []) := by decide
theorem test_decode_column_14_low :
    decode [0b00001110#8] = .ok (.uld8, []) ∧
    decode [0b00011110#8] = .ok (.sld8, []) ∧
    decode [0b00101110#8] = .ok (.uld16, []) ∧
    decode [0b00111110#8] = .ok (.sld16, []) ∧
    decode [0b01001110#8] = .ok (.uld32, []) ∧
    decode [0b01011110#8] = .ok (.sld32, []) ∧
    decode [0b01101110#8] = .ok (.uld64, []) ∧
    decode [0b01111110#8] = .ok (.sld64, []) := by decide
theorem test_decode_column_14_high :
    decode [0b10001110#8] = .ok (.unassigned8E, []) ∧
    decode [0b10011110#8] = .ok (.unassigned9E, []) ∧
    decode [0b10101110#8] = .ok (.unassignedAE, []) ∧
    decode [0b10111110#8] = .ok (.unassignedBE, []) ∧
    decode [0b11001110#8] = .ok (.unassignedCE, []) ∧
    decode [0b11011110#8] = .ok (.unassignedDE, []) ∧
    decode [0b11101110#8] = .ok (.unassignedEE, []) ∧
    decode [0b11111110#8] = .ok (.unassignedFE, []) := by decide
theorem test_decode_column_15_low :
    decode [0b00001111#8] = .ok (.illegal0F, []) ∧
    decode [0b00011111#8] = .ok (.illegal1F, []) ∧
    decode [0b00101111#8] = .ok (.illegal2F, []) ∧
    decode [0b00111111#8] = .ok (.illegal3F, []) ∧
    decode [0b01001111#8] = .ok (.illegal4F, []) ∧
    decode [0b01011111#8] = .ok (.illegal5F, []) ∧
    decode [0b01101111#8] = .ok (.illegal6F, []) ∧
    decode [0b01111111#8] = .ok (.illegal7F, []) := by decide
theorem test_decode_column_15_high :
    decode [0b10001111#8] = .ok (.illegal8F, []) ∧
    decode [0b10011111#8] = .ok (.illegal9F, []) ∧
    decode [0b10101111#8] = .ok (.illegalAF, []) ∧
    decode [0b10111111#8] = .ok (.illegalBF, []) ∧
    decode [0b11001111#8] = .ok (.illegalCF, []) ∧
    decode [0b11011111#8] = .ok (.illegalDF, []) ∧
    decode [0b11101111#8] = .ok (.illegalEF, []) ∧
    decode [0b11111111#8] = .ok (.illegalFF, []) := by decide

/-- The decoder stops by name where bytes are missing. -/
theorem test_decode_rejects :
    decode [] = .error .noOpcode ∧ decode [0b01100001#8, 1#8, 2#8, 3#8, 4#8, 5#8, 6#8, 7#8] = .error (.truncatedImmediate 0x61#8) := by
  decide
/-- Bytes after an instruction are left alone (R80). -/
theorem test_decode_leaves_the_rest :
    decode [0b00010001#8, 0x88#8, 0b00000001#8, 0x01#8] = .ok (.slit8 0x88#8, [0x01#8, 0x01#8]) := by decide
/-- A table word has its first byte in bits 7:0; immediate bytes it gives no bits are zero. -/
theorem test_decodeTableWord :
    decodeTableWord 24 0x123421 = some (.ulit16 0x1234#16) ∧ decodeTableWord 8 0x21 = some (.ulit16 0#16) ∧
      decodeTableWord 8 0xE0 = some .illegalE0 := by decide

/-! ### Small states, and what a step answers -/

/-- The bytes at 0x1000, the stacks and the carry given, everything else as at a launch. -/
def start (bs : List Byte) (d rs : List Cell) (c : Bool) : State :=
  { State.launch {} (Memory.writeBytes [] 0x1000#64 bs) c false 0 with D := d, Rs := rs }

/-- The state an answer goes on with. -/
def nextOf : Result → Option State
  | .next t => some t
  | _ => none

/-- The fault an answer stops with. -/
def faultOf : Result → Option Fault
  | .fault r => some r
  | _ => none

/-- The components most vectors are about. -/
structure Shown where
  pc : Cell
  D : List Cell
  Rs : List Cell
  C : Bool
  deriving DecidableEq, Repr

/-- Those components of the state an answer goes on with. -/
def shows (r : Result) : Option Shown := (nextOf r).map fun t => ⟨t.pc, t.D, t.Rs, t.C⟩

theorem next_of {r : Result} {t : State} (h : nextOf r = some t) : r = .next t := by
  cases r <;> simp_all [nextOf]

theorem fault_of {r : Result} {f : Fault} (h : faultOf r = some f) : r = .fault f := by
  cases r <;> simp_all [faultOf]

/-! ### The opcode-table interface -/

/-- A word placed by `withFetchWord` is what the next step runs: SLIT8 $88 (V-LIT-2), from reset. -/
theorem test_withFetchWord_runs :
    shows (step (State.reset.withFetchWord 16 0x8811)) = some ⟨0x1002#64, [0xFFFFFFFFFFFFFF88#64], [], false⟩ := by
  decide
/-- It changes nothing but the bytes at `pc` where they may be fetched already. -/
theorem test_withFetchWord_leaves_the_rest :
    State.reset.withFetchWord 8 0x15 = { State.reset with mem := [(0x1000, 0x15#8)] } := by decide

/-! ### Group 0 (V-G0-1 to V-G0-28) -/

theorem test_brk : nextOf (step (start [0x00#8] [5#64] [] false)) =
    some { start [0x00#8] [5#64] [] false with trap := some (.breakpoint 0x1000#64) } := by decide
theorem test_brk_not_taken : nextOf (exec .brk { start [] [5#64] [] false with condp := some false }) =
    some { start [] [5#64] [] false with pc := 0x1001#64 } := by decide
theorem test_sc : nextOf (step (start [0x10#8] [3#64] [] false)) =
    some { start [0x10#8] [3#64] [] false with trap := some (.syscall 0x1000#64) } := by decide
theorem test_pop : shows (step (start [0x20#8] [] [7#64] false)) = some ⟨0x1001#64, [7#64], [], false⟩ := by decide
theorem test_push : shows (step (start [0x30#8] [9#64, 4#64] [] false)) = some ⟨0x1001#64, [4#64], [9#64], false⟩ := by
  decide
theorem test_jmpdi : shows (step (start [0x40#8] [0x1800#64] [] false)) = some ⟨0x1800#64, [], [], false⟩ := by decide
theorem test_jmpdi_not_taken_pops :
    shows (exec .jmpdi { start [] [0x1800#64] [] false with condp := some false }) = some ⟨0x1001#64, [], [], false⟩ := by
  decide
theorem test_calldi : shows (step (start [0x50#8] [0x1800#64] [] false)) = some ⟨0x1800#64, [], [0x1001#64], false⟩ := by
  decide
theorem test_calldi_not_taken_keeps : shows (exec .calldi { start [] [0x1800#64] [] false with condp := some false }) =
    some ⟨0x1001#64, [0x1800#64], [], false⟩ := by decide
theorem test_ret : shows (step (start [0x60#8] [] [0x1234#64] false)) = some ⟨0x1234#64, [], [], false⟩ := by decide
theorem test_ret_not_taken_pops : shows (exec .ret { start [] [] [0x1234#64, 0x55#64] false with condp := some false }) =
    some ⟨0x1001#64, [], [0x55#64], false⟩ := by decide
theorem test_switch : shows (step (start [0x70#8] [] [0x1900#64, 0x55#64] false)) =
    some ⟨0x1900#64, [], [0x1001#64, 0x55#64], false⟩ := by decide
theorem test_switch_not_taken_keeps :
    shows (exec .switch { start [] [] [0x1900#64, 0x55#64] false with condp := some false }) =
      some ⟨0x1001#64, [], [0x1900#64, 0x55#64], false⟩ := by decide
theorem test_crStore_emulated :
    nextOf (exec .crStore { start [] [7#64, 1#64] [] false with config := { emulateCr := true } }) =
      some { start [] [7#64, 1#64] [] false with config := { emulateCr := true }, trap := some (.emulation 0x1000#64) } := by
  decide
theorem test_crFetch_emulated :
    nextOf (exec .crFetch { start [] [7#64] [] false with config := { emulateCr := true } }) =
      some { start [] [7#64] [] false with config := { emulateCr := true }, trap := some (.emulation 0x1000#64) } := by
  decide
theorem test_di : nextOf (step { start [0xA0#8] [] [] false with IE := true }) =
    some { start [0xA0#8] [] [] false with pc := 0x1001#64 } := by decide
theorem test_ei : nextOf (step (start [0xB0#8] [] [] false)) =
    some { start [0xB0#8] [] [] false with pc := 0x1001#64, IE := true } := by decide
theorem test_sec : nextOf (step (start [0xC0#8] [1#64] [] false)) =
    some { start [0xC0#8] [1#64] [] false with pc := 0x1001#64, secp := true } := by decide
theorem test_rFetch : shows (step (start [0xD0#8] [] [0x101#64] false)) =
    some ⟨0x1001#64, [0x101#64], [0x101#64], false⟩ := by decide
theorem test_empty_stacks : faultOf (step (start [0x20#8] [] [] false)) = some .rstackUnderflow ∧
    faultOf (step (start [0x30#8] [] [] false)) = some .dstackUnderflow ∧
    faultOf (step (start [0x80#8] [7#64] [] false)) = some .dstackUnderflow := by decide

/-! ### Literals (V-LIT) -/

theorem test_literals_unsigned :
    shows (step (start [0x01#8, 0x88#8] [0x77#64] [] false)) = some ⟨0x1002#64, [0x88#64, 0x77#64], [], false⟩ ∧
    shows (step (start [0x21#8, 0x00#8, 0x80#8] [] [] false)) = some ⟨0x1003#64, [0x8000#64], [], false⟩ ∧
    shows (step (start [0x41#8, 0x00#8, 0x00#8, 0x00#8, 0x80#8] [] [] false)) =
      some ⟨0x1005#64, [0x80000000#64], [], false⟩ ∧
    shows (step (start [0x61#8, 0xEF#8, 0xCD#8, 0xAB#8, 0x89#8, 0x67#8, 0x45#8, 0x23#8, 0x01#8] [] [] false)) =
      some ⟨0x1009#64, [0x0123456789ABCDEF#64], [], false⟩ := by decide
theorem test_literals_signed :
    shows (step (start [0x11#8, 0x88#8] [] [] false)) = some ⟨0x1002#64, [0xFFFFFFFFFFFFFF88#64], [], false⟩ ∧
    shows (step (start [0x31#8, 0x00#8, 0x80#8] [] [] false)) = some ⟨0x1003#64, [0xFFFFFFFFFFFF8000#64], [], false⟩ ∧
    shows (step (start [0x51#8, 0xFE#8, 0xFF#8, 0xFF#8, 0xFF#8] [] [] false)) =
      some ⟨0x1005#64, [0xFFFFFFFFFFFFFFFE#64], [], false⟩ ∧
    shows (step (start [0x71#8, 0#8, 0#8, 0#8, 0#8, 0#8, 0#8, 0#8, 0x80#8] [] [] false)) =
      some ⟨0x1009#64, [0x8000000000000000#64], [], false⟩ := by decide
/-- V-LIT-17: the second immediate byte would be outside MEM_POP. -/
theorem test_literal_fetch_fault :
    (nextOf (step { State.reset with pc := 0x1FFE#64, mem := [(0x1FFE, 0x21#8), (0x1FFF, 0x34#8)] })).map (·.trap) =
      some (some (.memFault 0x1FFF#64 2 .fetch)) := by decide

/-! ### BOOL2 and BOOL1: the truth tables of X3 and X4, on operands that hold every pair of bits -/

theorem test_bool2_kept :
    [0x02#8, 0x12#8, 0x22#8, 0x32#8, 0x42#8, 0x52#8, 0x62#8, 0x72#8].map
        (fun op => shows (step (start [op] [0xA#64, 0xC#64] [] true))) =
      [0x0#64, 0x8#64, 0x4#64, 0xC#64, 0x2#64, 0xA#64, 0x6#64, 0xE#64].map
        (fun r => some ⟨0x1001#64, [r, 0xA#64, 0xC#64], [], true⟩) := by decide
theorem test_bool2_kept_high :
    [0x82#8, 0x92#8, 0xA2#8, 0xB2#8, 0xC2#8, 0xD2#8, 0xE2#8, 0xF2#8].map
        (fun op => shows (step (start [op] [0xA#64, 0xC#64] [] true))) =
      [0xFFFFFFFFFFFFFFF1#64, 0xFFFFFFFFFFFFFFF9#64, 0xFFFFFFFFFFFFFFF5#64, 0xFFFFFFFFFFFFFFFD#64,
        0xFFFFFFFFFFFFFFF3#64, 0xFFFFFFFFFFFFFFFB#64, 0xFFFFFFFFFFFFFFF7#64, 0xFFFFFFFFFFFFFFFF#64].map
        (fun r => some ⟨0x1001#64, [r, 0xA#64, 0xC#64], [], true⟩) := by decide
theorem test_bool2_popped :
    [0x03#8, 0x13#8, 0x23#8, 0x33#8, 0x43#8, 0x53#8, 0x63#8, 0x73#8].map
        (fun op => shows (step (start [op] [0xA#64, 0xC#64, 0x99#64] [] true))) =
      [0x0#64, 0x8#64, 0x4#64, 0xC#64, 0x2#64, 0xA#64, 0x6#64, 0xE#64].map
        (fun r => some ⟨0x1001#64, [r, 0x99#64], [], true⟩) := by decide
theorem test_bool2_popped_high :
    [0x83#8, 0x93#8, 0xA3#8, 0xB3#8, 0xC3#8, 0xD3#8, 0xE3#8, 0xF3#8].map
        (fun op => shows (step (start [op] [0xA#64, 0xC#64, 0x99#64] [] true))) =
      [0xFFFFFFFFFFFFFFF1#64, 0xFFFFFFFFFFFFFFF9#64, 0xFFFFFFFFFFFFFFF5#64, 0xFFFFFFFFFFFFFFFD#64,
        0xFFFFFFFFFFFFFFF3#64, 0xFFFFFFFFFFFFFFFB#64, 0xFFFFFFFFFFFFFFF7#64, 0xFFFFFFFFFFFFFFFF#64].map
        (fun r => some ⟨0x1001#64, [r, 0x99#64], [], true⟩) := by decide
theorem test_bool1 :
    [0x04#8, 0x14#8, 0x24#8, 0x34#8].map (fun op => shows (step (start [op] [0xF0#64] [] true))) =
      [0x0#64, 0xF0#64, 0xFFFFFFFFFFFFFF0F#64, 0xFFFFFFFFFFFFFFFF#64].map
        (fun r => some ⟨0x1001#64, [r, 0xF0#64], [], true⟩) ∧
    [0x05#8, 0x15#8, 0x25#8, 0x35#8].map (fun op => shows (step (start [op] [0xF0#64] [] true))) =
      [0x0#64, 0xF0#64, 0xFFFFFFFFFFFFFF0F#64, 0xFFFFFFFFFFFFFFFF#64].map
        (fun r => some ⟨0x1001#64, [r], [], true⟩) := by decide
/-- V-B2-13, V-B2-14, V-B1-6: a cell is needed whatever the function reads. -/
theorem test_bool_underflow : faultOf (step (start [0x52#8] [2#64] [] false)) = some .dstackUnderflow ∧
    faultOf (step (start [0x02#8] [] [] false)) = some .dstackUnderflow ∧
    faultOf (step (start [0x15#8] [] [] false)) = some .dstackUnderflow := by decide

/-! ### ADDSUB2: the functions of X5 for x1 = 5, x2 = 3 and both carries, and the vectors at the edges -/

theorem test_addsub2_carry_clear :
    [0x07#8, 0x17#8, 0x27#8, 0x37#8, 0x47#8, 0x57#8, 0x67#8, 0x77#8].map
        (fun op => shows (step (start [op] [3#64, 5#64] [] false))) =
      [(8#64, false), (9#64, false), (8#64, false), (9#64, false), (1#64, true), (2#64, true), (1#64, true), (2#64, true)].map
        (fun r => some ⟨0x1001#64, [r.1], [], r.2⟩) := by decide
theorem test_addsub2_carry_set :
    [0x06#8, 0x16#8, 0x26#8, 0x36#8, 0x46#8, 0x56#8, 0x66#8, 0x76#8].map
        (fun op => shows (step (start [op] [3#64, 5#64] [] true))) =
      [(8#64, false), (9#64, false), (9#64, false), (8#64, false), (1#64, true), (2#64, true), (2#64, true), (1#64, true)].map
        (fun r => some ⟨0x1001#64, [r.1, 3#64, 5#64], [], r.2⟩) := by decide
/-- V-AS-3, V-AS-8, V-AS-11, V-AS-17, V-AS-24, V-AS-27. -/
theorem test_addsub2_edges :
    shows (step (start [0x07#8] [1#64, 0xFFFFFFFFFFFFFFFF#64] [] false)) = some ⟨0x1001#64, [0#64], [], true⟩ ∧
    shows (step (start [0x17#8] [0xFFFFFFFFFFFFFFFF#64, 0xFFFFFFFFFFFFFFFF#64] [] false)) =
      some ⟨0x1001#64, [0xFFFFFFFFFFFFFFFF#64], [], true⟩ ∧
    shows (step (start [0x27#8] [0#64, 0xFFFFFFFFFFFFFFFF#64] [] true)) = some ⟨0x1001#64, [0#64], [], true⟩ ∧
    shows (step (start [0x57#8] [5#64, 3#64] [] false)) = some ⟨0x1001#64, [0xFFFFFFFFFFFFFFFE#64], [], false⟩ ∧
    shows (step (start [0x67#8] [0#64, 0#64] [] false)) = some ⟨0x1001#64, [0xFFFFFFFFFFFFFFFF#64], [], false⟩ ∧
    shows (step (start [0x77#8] [7#64, 7#64] [] true)) = some ⟨0x1001#64, [0xFFFFFFFFFFFFFFFF#64], [], false⟩ := by
  decide

/-! ### COND: the table of 95_test_vectors.md, with `C` clear and then set -/

/-- What a COND latches for a negative value, zero and a positive value. -/
def latched (op : Byte) (c : Bool) : List (Option (Option Bool)) :=
  [0x8000000000000000#64, 0#64, 1#64].map fun v => (nextOf (step (start [op] [v] [] c))).map (·.condp)

theorem test_cond_carry_clear :
    [0x08#8, 0x09#8, 0x18#8, 0x19#8, 0x28#8, 0x29#8, 0x38#8, 0x39#8].map (latched · false) =
      [[true, true, true], [false, false, false], [true, true, true], [false, false, false], [true, false, true],
        [false, true, false], [true, false, true], [false, true, false]].map (·.map fun b => some (some b)) ∧
    [0x48#8, 0x49#8, 0x58#8, 0x59#8, 0x68#8, 0x69#8, 0x78#8, 0x79#8].map (latched · false) =
      [[false, true, true], [true, false, false], [false, true, true], [true, false, false], [false, false, true],
        [true, true, false], [false, false, true], [true, true, false]].map (·.map fun b => some (some b)) := by decide
theorem test_cond_carry_set :
    [0x08#8, 0x09#8, 0x18#8, 0x19#8, 0x28#8, 0x29#8, 0x38#8, 0x39#8].map (latched · true) =
      [[true, true, true], [false, false, false], [false, false, false], [true, true, true], [true, false, true],
        [false, true, false], [false, false, false], [true, true, true]].map (·.map fun b => some (some b)) ∧
    [0x48#8, 0x49#8, 0x58#8, 0x59#8, 0x68#8, 0x69#8, 0x78#8, 0x79#8].map (latched · true) =
      [[false, true, true], [true, false, false], [false, false, false], [true, true, true], [false, false, true],
        [true, true, false], [false, false, false], [true, true, true]].map (·.map fun b => some (some b)) := by decide
/-- V-CO-3: after SEC the second cell is tested and removed. -/
theorem test_cond_after_sec :
    nextOf (exec .condNz { start [] [0x1800#64, 0#64, 0x55#64] [] false with secp := true }) =
      some { start [] [0x1800#64, 0x55#64] [] false with pc := 0x1001#64, condp := some false } := by decide

/-! ### Direct jumps and calls (V-CF), effective addresses (V-PEA) -/

theorem test_jumps :
    shows (step (start [0x0A#8, 0xFA#8] [] [] false)) = some ⟨0xFFA#64, [], [], false⟩ ∧
    shows (step (start [0x2A#8, 0x00#8, 0x01#8] [] [] false)) = some ⟨0x1100#64, [], [], false⟩ ∧
    shows (step (start [0x4A#8, 0x00#8, 0x08#8, 0x00#8, 0x00#8] [] [] false)) = some ⟨0x1800#64, [], [], false⟩ ∧
    shows (step (start [0x6A#8, 0x00#8, 0xFF#8, 0xFF#8, 0xFF#8, 0xFF#8, 0xFF#8, 0xFF#8, 0xFF#8] [] [] false)) =
      some ⟨0xF00#64, [], [], false⟩ := by decide
theorem test_calls :
    shows (step (start [0x1A#8, 0x10#8] [] [] false)) = some ⟨0x1010#64, [], [0x1002#64], false⟩ ∧
    shows (step (start [0x3A#8, 0xFD#8, 0xFF#8] [] [] false)) = some ⟨0xFFD#64, [], [0x1003#64], false⟩ ∧
    shows (step (start [0x5A#8, 0x00#8, 0xF0#8, 0xFF#8, 0xFF#8] [] [] false)) = some ⟨0#64, [], [0x1005#64], false⟩ ∧
    shows (step (start [0x7A#8, 0x00#8, 0x0F#8, 0#8, 0#8, 0#8, 0#8, 0#8, 0#8] [] [] false)) =
      some ⟨0x1F00#64, [], [0x1009#64], false⟩ := by decide
/-- V-CF-10, V-CF-15: not taken. -/
theorem test_transfers_not_taken :
    shows (exec (.jmp8 0x10#8) { start [] [] [] false with condp := some false }) = some ⟨0x1002#64, [], [], false⟩ ∧
    shows (exec (.call8 0x10#8) { start [] [] [] false with condp := some false }) = some ⟨0x1002#64, [], [], false⟩ := by
  decide
theorem test_rel_base_next :
    shows (exec (.jmp8 0x10#8) { start [] [] [] false with config := { relBase := .next } }) =
      some ⟨0x1012#64, [], [], false⟩ := by decide
theorem test_pear :
    shows (step (start [0x0C#8, 0x10#8] [] [] false)) = some ⟨0x1002#64, [], [0x1010#64], false⟩ ∧
    shows (step (start [0x2C#8, 0x00#8, 0x01#8] [] [] false)) = some ⟨0x1003#64, [], [0x1100#64], false⟩ ∧
    shows (step (start [0x4C#8, 0x00#8, 0x00#8, 0x01#8, 0x00#8] [] [] false)) =
      some ⟨0x1005#64, [], [0x11000#64], false⟩ ∧
    shows (step (start [0x6C#8, 0x00#8, 0xF0#8, 0xFF#8, 0xFF#8, 0xFF#8, 0xFF#8, 0xFF#8, 0xFF#8] [] [] false)) =
      some ⟨0x1009#64, [], [0#64], false⟩ := by decide
theorem test_pead :
    shows (step (start [0x1C#8, 0xF0#8] [] [] false)) = some ⟨0x1002#64, [0xFF0#64], [], false⟩ ∧
    shows (step (start [0x3C#8, 0x00#8, 0xF0#8] [] [] false)) = some ⟨0x1003#64, [0#64], [], false⟩ ∧
    shows (step (start [0x5C#8, 0xFF#8, 0xFF#8, 0xFF#8, 0xFF#8] [] [] false)) = some ⟨0x1005#64, [0xFFF#64], [], false⟩ ∧
    shows (step (start [0x7C#8, 0xFF#8, 0xEF#8, 0xFF#8, 0xFF#8, 0xFF#8, 0xFF#8, 0xFF#8, 0xFF#8] [] [] false)) =
      some ⟨0x1009#64, [0xFFFFFFFFFFFFFFFF#64], [], false⟩ := by decide

/-! ### Shifts, rotations, PERMUTE: the figures of X1, rows of the count tables, X2 -/

theorem test_shifts_by_one :
    [0x0B#8, 0x1B#8, 0x2B#8, 0x4B#8, 0x5B#8, 0x6B#8, 0x7B#8].map
        (fun op => shows (step (start [op] [1#64, 0xFFFFFFFFFFFFFF88#64] [] true))) =
      [(0xFFFFFFFFFFFFFF10#64, true), (0x7FFFFFFFFFFFFFC4#64, false), (0xFFFFFFFFFFFFFFC4#64, false),
        (0xFFFFFFFFFFFFFF11#64, true), (0xFFFFFFFFFFFFFF11#64, true), (0x7FFFFFFFFFFFFFC4#64, false),
        (0xFFFFFFFFFFFFFFC4#64, false)].map (fun r => some ⟨0x1001#64, [r.1], [], r.2⟩) := by decide
/-- n = 0x8000000000000001, count 66, `C` = 1 before. -/
theorem test_shifts_by_66 :
    [0x0B#8, 0x1B#8, 0x2B#8, 0x4B#8, 0x5B#8, 0x6B#8, 0x7B#8].map
        (fun op => shows (step (start [op] [66#64, 0x8000000000000001#64] [] true))) =
      [(0#64, false), (0#64, false), (0xFFFFFFFFFFFFFFFF#64, true), (6#64, false), (3#64, true),
        (0x6000000000000000#64, false), (0xC000000000000000#64, true)].map
        (fun r => some ⟨0x1001#64, [r.1], [], r.2⟩) := by decide
theorem test_permute :
    shows (step (start [0x3B#8] [0x1032547698BADCFE#64, 0x0123456789ABCDEF#64] [] true)) =
      some ⟨0x1001#64, [0xEFCDAB8967452301#64], [], true⟩ ∧
    shows (step (start [0x3B#8] [0xFFFFFFFFFFFFFF11#64, 0xA5#64] [] false)) =
      some ⟨0x1001#64, [0xF0#64], [], false⟩ := by decide

/-! ### Stores and loads (V-LS) -/

/-- The memory the load vectors read. -/
def loaded : Memory := Memory.writeBytes [] 0x1800#64 [0x80#8, 0x91#8, 0xA2#8, 0xB3#8, 0xC4#8, 0xD5#8, 0xE6#8, 0xF7#8]

theorem test_loads :
    [Instr.uld8, .sld8, .uld16, .sld16, .uld32, .sld32, .uld64, .sld64].map
        (fun i => shows (exec i { start [] [0x1800#64, 0x55#64] [] false with mem := loaded })) =
      [0x80#64, 0xFFFFFFFFFFFFFF80#64, 0x9180#64, 0xFFFFFFFFFFFF9180#64, 0xB3A29180#64, 0xFFFFFFFFB3A29180#64,
        0xF7E6D5C4B3A29180#64, 0xF7E6D5C4B3A29180#64].map (fun v => some ⟨0x1001#64, [v, 0x55#64], [], false⟩) := by
  decide
theorem test_stores :
    [Instr.st8, .st16, .st32, .st64].map
        (fun i => (nextOf (exec i (start [] [0x1800#64, 0x1122334455667788#64, 0x55#64] [] false))).map
          fun t => (t.D, t.mem)) =
      [[(0x1800, 0x88#8)], [(0x1800, 0x88#8), (0x1801, 0x77#8)],
        [(0x1800, 0x88#8), (0x1801, 0x77#8), (0x1802, 0x66#8), (0x1803, 0x55#8)],
        [(0x1800, 0x88#8), (0x1801, 0x77#8), (0x1802, 0x66#8), (0x1803, 0x55#8), (0x1804, 0x44#8), (0x1805, 0x33#8),
          (0x1806, 0x22#8), (0x1807, 0x11#8)]].map (fun m => some ([0x55#64], m)) := by decide
/-- V-LS-22, V-LS-25, V-LS-27: misaligned, and outside MEM_POP; nothing changes. -/
theorem test_data_faults :
    nextOf (exec .uld16 (start [] [0x1801#64, 0x55#64] [] false)) =
      some { start [] [0x1801#64, 0x55#64] [] false with trap := some (.memFault 0x1801#64 2 .load) } ∧
    nextOf (exec .st32 (start [] [0x1802#64, 1#64] [] false)) =
      some { start [] [0x1802#64, 1#64] [] false with trap := some (.memFault 0x1802#64 4 .store) } ∧
    nextOf (exec .uld8 (start [] [0x2000#64] [] false)) =
      some { start [] [0x2000#64] [] false with trap := some (.memFault 0x2000#64 1 .load) } := by decide
/-- V-LS-26, and a store under STORE_ORDER = data_on_top. -/
theorem test_data_parameters :
    shows (exec .uld16 { start [] [0x1801#64] [] false with mem := loaded, config := { alignStrict := false } }) =
      some ⟨0x1001#64, [0xA291#64], [], false⟩ ∧
    (nextOf (exec .st8 { start [] [0x88#64, 0x1800#64] [] false with config := { storeOrder := .dataOnTop } })).map
      (·.mem) = some [(0x1800, 0x88#8)] := by decide

/-! ### Illegal and unassigned opcodes (V-IL) -/

theorem test_illegal_opcodes :
    [0xE0#8, 0x44#8, 0x84#8, 0xFB#8, 0x1D#8, 0x0F#8, 0x81#8, 0xF9#8, 0x8A#8, 0x8C#8, 0xED#8, 0xFE#8].map
        (fun op => nextOf (step (start [op, 0x11#8, 0x22#8] [1#64, 2#64] [] false))) =
      [0xE0#8, 0x44#8, 0x84#8, 0xFB#8, 0x1D#8, 0x0F#8, 0x81#8, 0xF9#8, 0x8A#8, 0x8C#8, 0xED#8, 0xFE#8].map
        (fun op => some { start [op, 0x11#8, 0x22#8] [1#64, 2#64] [] false with trap := some (.illegalOpcode op) }) := by
  decide

/-! ### States and operands that meet the hypotheses of the obligations -/

/-- A launch with both stacks holding one cell and a COND that left FALSE. -/
def pendingFalse : State := { start [] [5#64] [0x1234#64] false with condp := some false }

/-- The parameters with both stacks of capacity 2. -/
def shallow : Config := { dsDepth := some 2, rsDepth := some 2 }

/-- Both stacks full, under `shallow`. -/
def full : State := { start [] [3#64, 5#64] [0x1234#64, 0x55#64] false with config := shallow }

theorem witness_EncodeInvertsDecode :
    decode [0x11#8, 0x88#8, 0x15#8] = .ok (.slit8 0x88#8, [0x15#8]) ∧ decode [0x15#8] = .ok (.nop, []) := by decide

/-- A five-byte instruction, and a one-byte one in the last byte of MEM_POP. -/
theorem witness_StepRunsDecoded :
    ((start [0x41#8, 0x78#8, 0x56#8, 0x34#8, 0x12#8] [] [] false).trap = none ∧
      decode ((start [0x41#8, 0x78#8, 0x56#8, 0x34#8, 0x12#8] [] [] false).mem.readBytes 0x1000#64 9) =
        .ok (.ulit32 0x12345678#32, [0#8, 0#8, 0#8, 0#8]) ∧
      (start [0x41#8, 0x78#8, 0x56#8, 0x34#8, 0x12#8] [] [] false).access 0x1000#64 1 .fetch = true ∧
      (start [0x41#8, 0x78#8, 0x56#8, 0x34#8, 0x12#8] [] [] false).access 0x1001#64 4 .fetch = true ∧
      (start [0x41#8, 0x78#8, 0x56#8, 0x34#8, 0x12#8] [] [] false).fetchRefused 0x1000#64 5 = false) ∧
    ({ State.reset with pc := 0x1FFF#64, mem := [(0x1FFF, 0xC0#8)] } : State).trap = none ∧
      decode (({ State.reset with pc := 0x1FFF#64, mem := [(0x1FFF, 0xC0#8)] } : State).mem.readBytes 0x1FFF#64 9) =
        .ok (.sec, List.replicate 8 0#8) ∧
      ({ State.reset with pc := 0x1FFF#64, mem := [(0x1FFF, 0xC0#8)] } : State).access 0x1FFF#64 1 .fetch = true ∧
      Instr.sec.immediate = [] ∧
      ({ State.reset with pc := 0x1FFF#64, mem := [(0x1FFF, 0xC0#8)] } : State).fetchRefused 0x1FFF#64 1 = false := by
  decide

/-- The opcode outside MEM_POP; an opcode that is not defined; an immediate that crosses the end of MEM_POP. -/
theorem witness_FetchChecksInOrder :
    (({ State.reset with pc := 0x2000#64 } : State).trap = none ∧
      ({ State.reset with pc := 0x2000#64 } : State).config.fetchCoherent = true ∧
      ({ State.reset with pc := 0x2000#64 } : State).access 0x2000#64 1 .fetch = false) ∧
    ((start [0x81#8] [] [] false).access 0x1000#64 1 .fetch = true ∧
      (decodeParts ((start [0x81#8] [] [] false).mem.get 0x1000) 0).wellFormed = false) ∧
    ({ State.reset with pc := 0x1FFE#64, mem := [(0x1FFE, 0x21#8)] } : State).access 0x1FFE#64 1 .fetch = true ∧
      (decodeParts (({ State.reset with pc := 0x1FFE#64, mem := [(0x1FFE, 0x21#8)] } : State).mem.get 0x1FFE) 0).wellFormed = true ∧
      immBytes (({ State.reset with pc := 0x1FFE#64, mem := [(0x1FFE, 0x21#8)] } : State).mem.get 0x1FFE) = 2 ∧
      ({ State.reset with pc := 0x1FFE#64, mem := [(0x1FFE, 0x21#8)] } : State).access 0x1FFF#64 2 .fetch = false := by
  decide

/-- V-LS-33, under both settings of FETCH_COHERENT. -/
theorem witness_StoreThenFetch : ∀ b ∈ [true, false],
    let s := { start [0x0D#8] [0x1001#64, 0x15#64, 0x42#64] [] false with config := { fetchCoherent := b } }
    s.mem.wf = true ∧ s.trap = none ∧ s.D = 0x1001#64 :: 0x15#64 :: [0x42#64] ∧
      (s.storeOperands 0x1001#64 0x15#64).1 = s.pc + 1 ∧ s.access (s.pc + 1) 1 .store = true ∧
      s.access (s.pc + 1) 1 .fetch = true ∧ immBytes ((s.storeOperands 0x1001#64 0x15#64).2.setWidth 8) = 0 ∧
      s.config.fetchCoherent = b := by decide

theorem witness_TrapHandedToEnvironment : ∀ p ∈ [TrapPolicy.halt, TrapPolicy.platform],
    let s := { State.reset with trap := some (.breakpoint 0x1000#64), config := { trapEnv := p } }
    s.trap = some (.breakpoint 0x1000#64) ∧ s.config.trapEnv = p := by decide

/-- An unbounded stack, and a stack of capacity 2 with one cell and room for one. -/
theorem witness_AdoptKeepsMachineStates :
    ((start [] [5#64] [] true).inv = true ∧ (start [] [5#64] [] true).trap = none ∧
      (start [] [5#64] [] true).config = State.reset.config ∧ (start [] [5#64] [] true).stored = State.reset.stored ∧
      State.reset.config.dsDepth = none) ∧
    ({ full with D := [5#64] } : State).inv = true ∧ ({ full with D := [5#64] } : State).trap = none ∧
      ({ full with D := [5#64] } : State).config = full.config ∧ ({ full with D := [5#64] } : State).stored = full.stored ∧
      full.config.dsDepth = some 2 ∧ ({ full with D := [5#64] } : State).D.length ≤ 2 - 1 := by decide

theorem witness_InvAtReset : Memory.wf [(0x1000, 0x15#8), (0x1FFF, 0xC0#8)] = true := by decide

/-- Full stacks of finite capacity, and the step of an ADD. -/
theorem witness_InvKeptByStep :
    ({ full with mem := [(0x1000, 0x07#8)] } : State).inv = true ∧
      step { full with mem := [(0x1000, 0x07#8)] } =
        .next { full with mem := [(0x1000, 0x07#8)], D := [8#64], pc := 0x1001#64 } :=
  ⟨by decide, next_of (by decide)⟩

theorem witness_ParametersNeverChange :
    step { full with mem := [(0x1000, 0x07#8)] } =
      .next { full with mem := [(0x1000, 0x07#8)], D := [8#64], pc := 0x1001#64 } :=
  next_of (by decide)

/-- BIC neither asks the environment nor writes `IE`, `C`, the return stack or memory: OnlyDiEiWriteInterruptEnable,
OnlyNamedWriteCarry, OnlyNamedWriteReturnStack, OnlyStoresWriteMemory, OnlyCrReachesTheEnvironment. -/
theorem witness_frames :
    exec .bic full = .next { full with D := [4#64], pc := 0x1001#64 } ∧ Instr.bic ≠ .di ∧ Instr.bic ≠ .ei ∧
      Instr.bic.asksEnvironment = false ∧ Instr.bic.writesCarry = false ∧ Instr.bic.writesReturnStack = false ∧
      Instr.bic.isStore = false :=
  ⟨next_of (by decide), by decide⟩

theorem witness_DataStackSpared :
    exec .ret full = .next { full with Rs := [0x55#64], pc := 0x1234#64 } ∧ Instr.ret.sparesDataStack = true :=
  ⟨next_of (by decide), rfl⟩

/-- A trap that changes nothing, and one that clears the latches. -/
theorem witness_TrapsArePrecise :
    ({ pendingFalse with mem := [(0x1000, 0x0F#8)] } : State).trap = none ∧
    step { pendingFalse with mem := [(0x1000, 0x0F#8)] } =
      .next { pendingFalse with mem := [(0x1000, 0x0F#8)], trap := some (.illegalOpcode 0x0F#8) } ∧
    step { pendingFalse with condp := some true } =
      .next { pendingFalse with condp := none, trap := some (.breakpoint 0x1000#64) } :=
  ⟨rfl, next_of (by decide), next_of (by decide)⟩

/-- An instruction, a COND and SEC, each with both latches pending before it. -/
theorem witness_LatchesServeOneInstruction :
    ({ full with condp := some true, secp := true } : State).config.prefixPersist = false ∧
    ({ full with condp := some true, secp := true } : State).trap = none ∧
    (exec .bic { full with condp := some true, secp := true } = .next { full with D := [4#64], pc := 0x1001#64 } ∧
      Instr.bic.asksEnvironment = false ∧ Instr.bic.isCond = false ∧ Instr.bic ≠ .sec) ∧
    (exec .condZ { full with condp := some true, secp := true } =
        .next { full with D := [3#64], pc := 0x1001#64, condp := some false } ∧
      Instr.condZ.asksEnvironment = false ∧ Instr.condZ.isCond = true) ∧
    exec .sec { full with condp := some true, secp := true } = .next { full with pc := 0x1001#64, secp := true } ∧
      Instr.sec.asksEnvironment = false :=
  ⟨rfl, rfl, ⟨next_of (by decide), by decide⟩, ⟨next_of (by decide), by decide⟩, next_of (by decide), rfl⟩

/-- A pending COND before JMP8, a pending SEC before a COND, and neither before BIC. -/
theorem witness_PrefixPersistIrrelevant :
    (pendingFalse.condp ≠ none ∧ (Instr.jmp8 0x10#8).readsCond = true ∧ pendingFalse.secp = false ∧
      (Instr.jmp8 0x10#8).asksEnvironment = false) ∧
    (({ full with secp := true } : State).condp = none ∧ Instr.condZ.isCond = true ∧
      Instr.condZ.asksEnvironment = false) ∧
    full.condp = none ∧ full.secp = false ∧ Instr.bic.asksEnvironment = false := by decide

theorem witness_UnboundedStacksOnlyUnderflow :
    (start [] [5#64] [] false).config.dsDepth = none ∧ (start [] [5#64] [] false).config.rsDepth = none ∧
      exec .add (start [] [5#64] [] false) = .fault .dstackUnderflow ∧
      exec .ret (start [] [5#64] [] false) = .fault .rstackUnderflow :=
  ⟨rfl, rfl, fault_of (by decide), fault_of (by decide)⟩

/-- One cell short of two, one short of one; a COND with and without SEC; CALLDI with either TRUE condition. -/
theorem witness_DataStackUnderflow :
    ((start [] [5#64] [] false).D.length < Instr.add.dataNeeded ∧ (start [] [] [] false).D.length < Instr.nop.dataNeeded) ∧
    (Instr.condAlways.isCond = true ∧ (start [] [] [] false).secp = false ∧ (start [] [] [] false).D.length < 1) ∧
    (({ start [] [5#64] [] false with secp := true } : State).D.length < 2) ∧
    (start [] [] [] false).condp ≠ some false ∧
      ({ start [] [] [] false with condp := some true } : State).condp ≠ some false ∧ (start [] [] [] false).D = [] := by
  decide

/-- A stack of capacity 2 that is full, and one of capacity 0, which is always full. -/
theorem witness_DataStackOverflow :
    (full.config.dsDepth = some 2 ∧ full.D.length = 2 ∧ Instr.twodupAdd.growsDataStack = true ∧
      Instr.twodupAdd.dataNeeded ≤ 2 ∧ full.Rs ≠ []) ∧
    (({ State.reset with config := { dsDepth := some 0 } } : State).D.length = 0 ∧
      (Instr.ulit8 1#8).growsDataStack = true ∧ (Instr.ulit8 1#8).dataNeeded ≤ 0) := by decide

theorem witness_ReturnStackFaults :
    ((start [] [5#64] [] false).Rs = [] ∧ (start [] [5#64] [] false).condp ≠ some false) ∧
    full.config.rsDepth = some 2 ∧ full.Rs.length = 2 ∧ full.D ≠ [] ∧ full.condp ≠ some false := by decide

/-- Each clause: room on both stacks; no room; an empty return stack; an empty data stack. -/
theorem witness_StackMoves :
    (pendingFalse.Rs = [0x1234#64] ∧ pendingFalse.D = [5#64] ∧
      hasRoom pendingFalse.config.dsDepth pendingFalse.D = true ∧
      hasRoom pendingFalse.config.rsDepth pendingFalse.Rs = true) ∧
    (full.Rs = 0x1234#64 :: [0x55#64] ∧ full.D = 3#64 :: [5#64] ∧ hasRoom full.config.dsDepth full.D = false ∧
      hasRoom full.config.rsDepth full.Rs = false) ∧
    State.reset.Rs = [] ∧ State.reset.D = [] := by decide

theorem witness_JmpdiAndRet :
    pendingFalse.D = 5#64 :: [] ∧ pendingFalse.Rs = 0x1234#64 :: [] ∧ State.reset.D = [] ∧ State.reset.Rs = [] := by
  decide

/-- Each clause: the condition FALSE; taken with room; taken with a full return stack; taken on empty stacks. -/
theorem witness_CalldiAndSwitch :
    pendingFalse.condp = some false ∧
    ((start [] [5#64] [0x1234#64] false).condp ≠ some false ∧ (start [] [5#64] [0x1234#64] false).D = 5#64 :: [] ∧
      (start [] [5#64] [0x1234#64] false).Rs = 0x1234#64 :: [] ∧
      hasRoom (start [] [5#64] [0x1234#64] false).config.rsDepth (start [] [5#64] [0x1234#64] false).Rs = true) ∧
    (full.condp ≠ some false ∧ full.D ≠ [] ∧ hasRoom full.config.rsDepth full.Rs = false) ∧
    State.reset.condp ≠ some false ∧ State.reset.D = [] ∧ State.reset.Rs = [] := by decide

theorem witness_DiAndEi : State.reset.config.emulateDiei = false ∧
    ({ State.reset with config := { emulateDiei := true } } : State).config.emulateDiei = true := by decide

/-- Each clause: CRRead and CRWrite that never trap, that may, and EMULATE_CR. -/
theorem witness_CrStoreAsksCrWrite : full.D = 3#64 :: 5#64 :: [] ∧
    (full.config.emulateCr = false ∧ full.config.crTraps = .never) ∧
    (({ full with config := { crTraps := .platform } } : State).config.emulateCr = false ∧
      ({ full with config := { crTraps := .platform } } : State).config.crTraps = .platform) ∧
    ({ full with config := { emulateCr := true } } : State).config.emulateCr = true := by decide

theorem witness_CrFetchAsksCrRead : pendingFalse.D = 5#64 :: [] ∧
    (pendingFalse.config.emulateCr = false ∧ pendingFalse.config.crTraps = .never) ∧
    (({ pendingFalse with config := { crTraps := .platform } } : State).config.emulateCr = false ∧
      ({ pendingFalse with config := { crTraps := .platform } } : State).config.crTraps = .platform) ∧
    ({ pendingFalse with config := { emulateCr := true } } : State).config.emulateCr = true := by decide

/-- One free cell of two. -/
theorem witness_LiteralsPush :
    hasRoom ({ full with D := [5#64] } : State).config.dsDepth ({ full with D := [5#64] } : State).D = true := by decide

/-- Two cells, with room for a third: Bool2KeptResults, AddResults, SubResults. -/
theorem witness_two_inputs_kept :
    (start [] [3#64, 5#64] [] true).D = 3#64 :: 5#64 :: [] ∧
      hasRoom (start [] [3#64, 5#64] [] true).config.dsDepth (start [] [3#64, 5#64] [] true).D = true := by decide

/-- Two cells on a full stack, nothing being pushed beyond them: Bool2PoppedResults, AddResults, SubResults. -/
theorem witness_two_inputs_popped : full.D = 3#64 :: 5#64 :: [] ∧ hasRoom full.config.dsDepth full.D = false := by decide

theorem witness_Bool1Results :
    pendingFalse.D = 5#64 :: [] ∧ hasRoom pendingFalse.config.dsDepth pendingFalse.D = true := by decide

/-- The low cells add to 2^64 and the low difference borrows; the second state keeps each carry. -/
theorem witness_TwoCellArithmetic :
    (start [] [1#64, 0xFFFFFFFFFFFFFFFF#64] [] false).D = 1#64 :: 0xFFFFFFFFFFFFFFFF#64 :: [] ∧
      (start [] [2#64, 1#64] [] true).D = 2#64 :: 1#64 :: [] ∧
      shows (exec .add (start [] [1#64, 0xFFFFFFFFFFFFFFFF#64] [] false)) = some ⟨0x1001#64, [0#64], [], true⟩ ∧
      (start [] [2#64, 1#64] [] true).C = true ∧
      shows (exec .sub (start [] [1#64, 0xFFFFFFFFFFFFFFFF#64] [] false)) =
        some ⟨0x1001#64, [0xFFFFFFFFFFFFFFFE#64], [], true⟩ := by decide

theorem witness_CondTestsTheTop : pendingFalse.secp = false ∧ pendingFalse.D = 5#64 :: [] := by decide

theorem witness_CondAfterSecTestsTheSecond : Instr.condLeC1.isCond = true ∧
    ({ full with secp := true } : State).secp = true ∧ ({ full with secp := true } : State).D = 3#64 :: 5#64 :: [] := by
  decide

/-- CallTargets and EffectiveAddresses: the condition TRUE with room on both stacks, and the condition FALSE. -/
theorem witness_CallTargets :
    ((start [] [5#64] [0x1234#64] false).condp ≠ some false ∧
      hasRoom (start [] [5#64] [0x1234#64] false).config.rsDepth (start [] [5#64] [0x1234#64] false).Rs = true ∧
      hasRoom (start [] [5#64] [0x1234#64] false).config.dsDepth (start [] [5#64] [0x1234#64] false).D = true) ∧
    pendingFalse.condp = some false := by decide

/-- Each clause: SHIFT_FN = iterate; another SHIFT_FN with a count of 1; with a count of 3. -/
theorem witness_ShiftResults :
    (full.D = 3#64 :: 5#64 :: [] ∧ full.config.shiftFn = .iterate) ∧
    (({ full with D := [1#64, 5#64], config := { shiftFn := .platform } } : State).D = 1#64 :: 5#64 :: [] ∧
      ({ full with D := [1#64, 5#64], config := { shiftFn := .platform } } : State).config.shiftFn = .platform) ∧
    ({ full with config := { shiftFn := .platform } } : State).D = 3#64 :: 5#64 :: [] ∧ (3#64 : Cell) ≠ 1 := by decide

/-- The clauses meet at 0 and 1, 63 and 64, 64 and 65; each value is under one clause of each operation. -/
theorem witness_ShiftClosedForms :
    (1 ≤ 1 ∧ 1 ≤ 63 ∧ 1 ≤ 64) ∧ (1 ≤ 63 ∧ 63 ≤ 63 ∧ ¬64 ≤ 63) ∧ (64 ≤ 64 ∧ ¬64 < 64) ∧ 64 < 65 ∧
    shiftIterate .lsl 64 0x8000000000000001#64 false = (0#64, true) ∧
    shiftIterate .lsl 65 0x8000000000000001#64 false = (0#64, false) ∧
    shiftIterate .asr 63 0x8000000000000001#64 true = (0xFFFFFFFFFFFFFFFF#64, false) ∧
    shiftIterate .asr 64 0x8000000000000001#64 true = (0xFFFFFFFFFFFFFFFF#64, true) ∧
    shiftIterate .rlc 65 0x8000000000000001#64 true = (0x8000000000000001#64, true) := by decide +kernel

theorem witness_PermuteScattersNybbles : full.D = 3#64 :: 5#64 :: [] ∧ pendingFalse.D.length < 2 := by decide

/-- Every width, at the last place of MEM_POP where it fits, under both orders of the operands. -/
theorem witness_StoresWriteLowBytes :
    ∀ p ∈ [(StoreOrder.addrOnTop, 1, 0x1FFF#64), (.addrOnTop, 2, 0x1FFE#64), (.dataOnTop, 4, 0x1FFC#64),
      (.dataOnTop, 8, 0x1FF8#64)],
    let s := { start [] [p.2.2, p.2.2, 0x42#64] [] false with config := { storeOrder := p.1 } }
    s.mem.wf = true ∧ s.D = p.2.2 :: p.2.2 :: [0x42#64] ∧ s.config.storeOrder = p.1 ∧
      s.storeOperands p.2.2 p.2.2 = (p.2.2, p.2.2) ∧ s.config.alignStrict = true ∧ p.2.2.toNat % p.2.1 = 0 ∧
      s.access p.2.2 p.2.1 .store = true := by decide

/-- Every width, at the last place of MEM_POP where it fits. -/
theorem witness_LoadsExtendTheirBytes :
    ∀ p ∈ [(1, 0x1FFF#64), (2, 0x1FFE#64), (4, 0x1FFC#64), (8, 0x1FF8#64)],
    (start [] [p.2] [] false).D = p.2 :: [] ∧ (start [] [p.2] [] false).config.alignStrict = true ∧
      p.2.toNat % p.1 = 0 ∧ (start [] [p.2] [] false).access p.2 p.1 .load = true := by decide

/-- Misaligned by one, and aligned in the first place after MEM_POP, for a store and a load. -/
theorem witness_DataAccessFaults :
    ((start [] [0x1801#64, 1#64] [] false).D = 0x1801#64 :: 1#64 :: [] ∧
      (start [] [0x1801#64, 1#64] [] false).config.alignStrict = true ∧
      ((start [] [0x1801#64, 1#64] [] false).storeOperands 0x1801#64 1#64).1.toNat % 2 ≠ 0) ∧
    ((start [] [0x2000#64, 1#64] [] false).D = 0x2000#64 :: 1#64 :: [] ∧
      (start [] [0x2000#64, 1#64] [] false).access 0x2000#64 8 .store = false ∧
      (start [] [0x2000#64, 1#64] [] false).access 0x2000#64 8 .load = false) := by decide

theorem witness_WidthsOverlapByteByByte : loaded.wf = true := by decide

theorem witness_IllegalOpcodesTrap :
    Instr.illegal0F.opcodeClass = .listedIllegal ∧ Instr.unassignedFE.opcodeClass = .unassigned := by decide

end Sys2Proof.Tests
end

section
/-! PROOF. No instruction and no step answers a refusal: one rule per named operation of the machine, then
one case per family of instructions. -/

namespace Sys2Proof.Machine

/-- An answer that is a next state or a fault. -/
def Unrefused (x : Result) : Prop := ∀ r : Refusal, x ≠ .refused r

theorem Unrefused.next (s : State) : Unrefused (.next s) := fun _ h => by cases h

theorem Unrefused.fault (f : Fault) : Unrefused (.fault f) := fun _ h => by cases h

/-! ### The operations: none refuses of itself, so each is unrefused if what it goes on with is -/

section Operations

variable {s : State}

theorem Unrefused.of_raiseTrap (t : Trap) (s : State) : Unrefused (raiseTrap t s) := .next _

theorem Unrefused.of_answerTrap (t : Trap) (s : State) : Unrefused (answerTrap t s) := by
  unfold answerTrap
  split
  · exact .fault _
  · split
    · exact .fault _
    · exact .next _

theorem Unrefused.of_finish (len : Nat) (s : State) : Unrefused (finish len s) := .next _

theorem Unrefused.of_pushD {v : Cell} {k : State → Result} (hk : ∀ t, Unrefused (k t)) :
    Unrefused (pushD v s k) := by
  unfold pushD
  split
  · exact hk _
  · exact .fault _

theorem Unrefused.of_pushR {v : Cell} {k : State → Result} (hk : ∀ t, Unrefused (k t)) :
    Unrefused (pushR v s k) := by
  unfold pushR
  split
  · exact hk _
  · exact .fault _

theorem Unrefused.of_popD {k : Cell → State → Result} (hk : ∀ x t, Unrefused (k x t)) :
    Unrefused (popD s k) := by
  unfold popD
  split
  · exact hk _ _
  · exact .fault _

theorem Unrefused.of_popS {k : Cell → State → Result} (hk : ∀ x t, Unrefused (k x t)) :
    Unrefused (popS s k) := by
  unfold popS
  split
  · exact hk _ _
  · exact .fault _

theorem Unrefused.of_popR {k : Cell → State → Result} (hk : ∀ x t, Unrefused (k x t)) :
    Unrefused (popR s k) := by
  unfold popR
  split
  · exact hk _ _
  · exact .fault _

theorem Unrefused.of_memRead {a : Cell} {n : Nat} {k : Nat → Result} (hk : ∀ v, Unrefused (k v)) :
    Unrefused (memRead s a n k) := by
  unfold memRead
  split
  · exact .of_raiseTrap _ _
  · split
    · exact hk _
    · exact .of_raiseTrap _ _

theorem Unrefused.of_memWrite {a : Cell} {n v : Nat} {k : State → Result} (hk : ∀ t, Unrefused (k t)) :
    Unrefused (memWrite s a n v k) := by
  unfold memWrite
  split
  · exact .of_raiseTrap _ _
  · split
    · exact hk _
    · exact .of_raiseTrap _ _

theorem Unrefused.of_fetch {a : Cell} {n : Nat} {k : Nat → Result} (hk : ∀ v, Unrefused (k v)) :
    Unrefused (fetch s a n k) := by
  unfold fetch
  split
  · split
    · exact .fault _
    · exact hk _
  · exact .of_raiseTrap _ _

theorem Unrefused.of_fetchInstr {k : Instr → Result} (hk : ∀ i, Unrefused (k i)) :
    Unrefused (fetchInstr s k) := by
  refine .of_fetch fun v => ?_
  dsimp only
  split
  · exact hk _
  · exact .of_fetch fun _ => hk _

end Operations

/-! ### The forms instructions share -/

section Forms

variable (s : State)

theorem Unrefused.of_binary (inputs : Inputs) (f : Cell → Cell → Bool → Cell × Bool) :
    Unrefused (binary inputs f s) := by
  unfold binary
  split
  · cases inputs with
    | kept => exact .of_pushD fun _ => .of_finish _ _
    | popped => exact .of_finish _ _
  · exact .fault _

theorem Unrefused.of_unary (inputs : Inputs) (f : Cell → Cell) : Unrefused (unary inputs f s) := by
  unfold unary
  split
  · cases inputs with
    | kept => exact .of_pushD fun _ => .of_finish _ _
    | popped => exact .of_finish _ _
  · exact .fault _

theorem Unrefused.of_bool2 (a b c d : Bool) (inputs : Inputs) : Unrefused (bool2 a b c d inputs s) :=
  .of_binary s _ _

theorem Unrefused.of_bool1 (c d : Bool) (inputs : Inputs) : Unrefused (bool1 c d inputs s) := .of_unary s _ _

theorem Unrefused.of_addSub2 (b : Bool) (cc : CarryIn) (inputs : Inputs) : Unrefused (addSub2 b cc inputs s) :=
  .of_binary s _ _

theorem Unrefused.of_shift (op : ShiftOp) : Unrefused (shift op s) := .of_binary s _ _

theorem Unrefused.of_execPermute : Unrefused (execPermute s) := .of_binary s _ _

theorem Unrefused.of_literal (n : Nat) (v : Cell) : Unrefused (literal n v s) :=
  .of_pushD fun _ => .of_finish _ _

theorem Unrefused.of_addressToD (n : Nat) (disp : Cell) : Unrefused (addressToD n disp s) :=
  .of_pushD fun _ => .of_finish _ _

theorem Unrefused.of_addressToR (n : Nat) (disp : Cell) : Unrefused (addressToR n disp s) :=
  .of_pushR fun _ => .of_finish _ _

theorem Unrefused.of_condPrefix (a b c y : Bool) : Unrefused (condPrefix a b c y s) := by
  unfold condPrefix
  split
  · exact .of_popS fun _ _ => .next _
  · exact .of_popD fun _ _ => .next _

theorem Unrefused.of_jump (n : Nat) (disp : Cell) : Unrefused (jump n disp s) := by
  unfold jump
  split <;> exact .next _

theorem Unrefused.of_call (n : Nat) (disp : Cell) : Unrefused (call n disp s) := by
  unfold call
  split
  · exact .of_pushR fun _ => .next _
  · exact .next _

theorem Unrefused.of_storeCells (n : Nat) : Unrefused (storeCells n s) := by
  unfold storeCells
  split
  · exact .of_memWrite fun _ => .of_finish _ _
  · exact .fault _

theorem Unrefused.of_loadCell (signed : Bool) (n : Nat) : Unrefused (loadCell signed n s) := by
  unfold loadCell
  split
  · exact .of_memRead fun _ => .of_finish _ _
  · exact .fault _

theorem Unrefused.of_illegalOpcode (op : Byte) : Unrefused (illegalOpcode op s) := .of_raiseTrap _ _

/-! ### Group 0 (40_group0.md) -/

theorem Unrefused.of_trapIfCond (t : Trap) : Unrefused (trapIfCond t s) := by
  unfold trapIfCond
  split
  · exact .of_raiseTrap _ _
  · exact .next _

theorem Unrefused.of_writeIE (b : Bool) : Unrefused (writeIE b s) := by
  unfold writeIE
  split
  · exact .of_raiseTrap _ _
  · exact .of_finish _ _

theorem Unrefused.of_execPop : Unrefused (execPop s) :=
  .of_popR fun _ _ => .of_pushD fun _ => .of_finish _ _

theorem Unrefused.of_execPush : Unrefused (execPush s) :=
  .of_popD fun _ _ => .of_pushR fun _ => .of_finish _ _

theorem Unrefused.of_execJmpdi : Unrefused (execJmpdi s) := by
  refine .of_popD fun _ _ => ?_
  split <;> exact .next _

theorem Unrefused.of_execRet : Unrefused (execRet s) := by
  refine .of_popR fun _ _ => ?_
  split <;> exact .next _

theorem Unrefused.of_execCalldi : Unrefused (execCalldi s) := by
  unfold execCalldi
  split
  · exact .of_popD fun _ _ => .of_pushR fun _ => .next _
  · exact .next _

theorem Unrefused.of_execSwitch : Unrefused (execSwitch s) := by
  unfold execSwitch
  split
  · exact .of_popR fun _ _ => .next _
  · exact .next _

theorem Unrefused.of_execCrStore : Unrefused (execCrStore s) := by
  refine .of_popD fun _ _ => .of_popD fun _ _ => ?_
  dsimp only
  split
  · exact .of_raiseTrap _ _
  · exact .next _

theorem Unrefused.of_execCrFetch : Unrefused (execCrFetch s) := by
  refine .of_popD fun _ _ => ?_
  dsimp only
  split
  · exact .of_raiseTrap _ _
  · exact .next _

theorem Unrefused.of_execRFetch : Unrefused (execRFetch s) := by
  unfold execRFetch
  split
  · exact .of_pushD fun _ => .of_finish _ _
  · exact .fault _

end Forms

/-! ### All instructions -/

theorem exec_unrefused (i : Instr) (s : State) : Unrefused (exec i s) := by
  cases i <;> simp only [exec]
  case brk | sc => exact .of_trapIfCond _ _
  case pop => exact .of_execPop s
  case push => exact .of_execPush s
  case jmpdi => exact .of_execJmpdi s
  case calldi => exact .of_execCalldi s
  case ret => exact .of_execRet s
  case switch => exact .of_execSwitch s
  case crStore => exact .of_execCrStore s
  case crFetch => exact .of_execCrFetch s
  case di | ei => exact .of_writeIE _ _
  case sec => exact .next _
  case rFetch => exact .of_execRFetch s
  case ulit8 | slit8 | ulit16 | slit16 | ulit32 | slit32 | ulit64 | slit64 => exact .of_literal _ _ _
  case zero2 | twodropZero | twodupAnd | and | twodupBic | bic | over2 | drop | twodupSwapBic | swapBic | dup2
    | nip | twodupXor | xor | twodupOr | or | twodupNor | nor | twodupXnor | xnor | dupInvert2 | invertNip
    | twodupInvertOr | invertOr | overInvert | dropInvert | twodupSwapInvertOr | swapInvertOr | twodupNand
    | nand | negOne2 | twodropNegOne => exact .of_bool2 _ _ _ _ _ _
  case zero1 | dropZero | dup1 | nop | dupInvert1 | invert | negOne1 | dropNegOne => exact .of_bool1 _ _ _ _
  case twodupAdd | add | twodupAddPlus1 | addPlus1 | twodupAdc | adc | twodupAdcMinus1 | adcMinus1
    | twodupSubMinus1 | subMinus1 | twodupSub | sub | twodupSbc | sbc | twodupSbcMinus1 | sbcMinus1 =>
    exact .of_addSub2 _ _ _ _
  case condAlways | condNever | condC0 | condC1 | condNz | condZ | condNzC0 | condZC1 | condGe | condLt
    | condGeC0 | condLtC1 | condGt | condLe | condGtC0 | condLeC1 => exact .of_condPrefix _ _ _ _ _
  case jmp8 | jmp16 | jmp32 | jmp64 => exact .of_jump _ _ _
  case call8 | call16 | call32 | call64 => exact .of_call _ _ _
  case lsl | lsr | asr | rl | rlc | rr | rrc => exact .of_shift _ _
  case permute => exact .of_execPermute s
  case pear8 | pear16 | pear32 | pear64 => exact .of_addressToR _ _ _
  case pead8 | pead16 | pead32 | pead64 => exact .of_addressToD _ _ _
  case st8 | st16 | st32 | st64 => exact .of_storeCells _ _
  case uld8 | sld8 | uld16 | sld16 | uld32 | sld32 | uld64 | sld64 => exact .of_loadCell _ _ _
  -- the 126 opcodes that are no instruction
  all_goals exact .of_illegalOpcode _ _

theorem step_unrefused (s : State) : Unrefused (step s) := by
  unfold step
  split
  · exact .of_answerTrap _ _
  · exact .of_fetchInstr fun i => exec_unrefused i s

/-- Settles O26: every operation answers a next state or a fault, or goes on with one that does. -/
theorem nothingRefused : Obligations.NothingRefused :=
  ⟨exec_unrefused, step_unrefused⟩

end Sys2Proof.Machine
end

section
/-! PROOF. A read of some of the bytes of a write (20_memory.md R56): which bits of the value it gives. -/

namespace Sys2Proof.Machine

/-- Byte `j` of an access that begins at byte `i` of another is byte `i + j` of that other. -/
theorem byteAddr_add (a : Cell) (i j : Nat) : byteAddr (a + BitVec.ofNat 64 i) j = byteAddr a (i + j) := by
  unfold byteAddr
  rw [BitVec.ofNat_add, BitVec.add_assoc]

/-- The bytes `i`, …, `i + n - 1` of a `w`-byte write of `v`: those of `v` without its `i` low bytes. -/
theorem Memory.readBytes_write_within {m : Memory} {a : Cell} {w v i n : Nat} (hm : m.wf = true) (hw : w ≤ 2 ^ 64)
    (hin : i + n ≤ w) :
    (m.write a w v).readBytes (a + BitVec.ofNat 64 i) n = leBytes n (v / 256 ^ i) := by
  apply List.ext_getElem?
  intro j
  rw [Memory.getElem?_readBytes]
  split
  case isTrue hj =>
    have hbyte : (m.write a w v).get (byteAddr a (i + j)) = BitVec.ofNat 8 (v / 256 ^ (i + j)) := by
      have hlen : i + j < (leBytes w v).length := by
        rw [length_leBytes]
        omega
      rw [Memory.write, Memory.get_writeBytes_same hm (by rwa [length_leBytes]) hlen, getElem_leBytes]
    have hj' : j < (leBytes n (v / 256 ^ i)).length := by rwa [length_leBytes]
    rw [byteAddr_add, hbyte, List.getElem?_eq_getElem hj', getElem_leBytes, Nat.div_div_eq_div_mul, pow_add]
  case isFalse hj =>
    rw [List.getElem?_eq_none]
    rw [length_leBytes]
    omega

/-- Reading `n` bytes from byte `i` of a write of the cell `v` gives bits `[8(i+n)-1:8i]` of `v`. -/
theorem Memory.read_write_within {m : Memory} {a v : Cell} {w : Nat} (i n : Nat) (hm : m.wf = true)
    (hw : w ≤ 2 ^ 64) (hin : i + n ≤ w) :
    (m.write a w v.toNat).read (a + BitVec.ofNat 64 i) n = (v.extractLsb' (8 * i) (8 * n)).toNat := by
  have hpow (k : Nat) : (256 : Nat) ^ k = 2 ^ (8 * k) := by rw [pow_mul]; rfl
  calc (m.write a w v.toNat).read (a + BitVec.ofNat 64 i) n
      = leNat (leBytes n (v.toNat / 256 ^ i)) := by rw [Memory.read, Memory.readBytes_write_within hm hw hin]
    _ = v.toNat / 2 ^ (8 * i) % 2 ^ (8 * n) := by rw [leNat_leBytes, hpow, hpow]
    _ = (v.extractLsb' (8 * i) (8 * n)).toNat := by rw [BitVec.extractLsb'_toNat, Nat.shiftRight_eq_div_pow]

/-- Settles O59: each of the three reads lies within the eight bytes written. -/
theorem widthsOverlapByteByByte : Obligations.WidthsOverlapByteByByte := by
  intro m a v hm
  refine ⟨fun k hk => ?byte, ?half, ?high⟩
  case byte => exact Memory.read_write_within k 1 hm (by norm_num) (by omega)
  case half => simpa using Memory.read_write_within (a := a) (v := v) (w := 8) 0 2 hm (by norm_num) (by norm_num)
  case high => exact Memory.read_write_within 4 4 hm (by norm_num) (by norm_num)

end Sys2Proof.Machine
end

section
/-! PROOF. The encoding: which runs of bytes decode, what the encoder writes for what they decode to, and the
opcodes that are no instruction. -/

namespace Sys2Proof

open Machine

/-! ### The decoder, said once -/

/-- A run of bytes decodes exactly when it is an opcode byte, as many bytes as that opcode's immediate has, and
the rest; it then decodes to the instruction of the two. -/
theorem decode_eq_ok_iff {bytes rest : List Byte} {i : Instr} :
    decode bytes = .ok (i, rest) ↔
      ∃ op imm, imm.length = immBytes op ∧ bytes = op :: (imm ++ rest) ∧ i = decodeParts op (leNat imm) := by
  constructor
  case mp =>
    intro h
    cases bytes with
    | nil => cases h
    | cons op tail =>
      simp only [decode] at h
      split at h
      case isTrue => cases h
      case isFalse hlen =>
        cases h
        exact ⟨op, tail.take (immBytes op), List.length_take_of_le (by omega), by simp, rfl⟩
  case mpr =>
    rintro ⟨op, imm, hlen, rfl, rfl⟩
    simp [decode, ← hlen]

/-! ### Immediates as numbers and as bytes -/

@[simp] theorem leBytes_zero (v : Nat) : leBytes 0 v = [] := rfl

/-- Only the low `n` bytes of a number matter to its `n` low bytes. -/
theorem leBytes_mod (n v : Nat) : leBytes n (v % 256 ^ n) = leBytes n v := by
  have h := leBytes_leNat (leBytes n v)
  rwa [length_leBytes, leNat_leBytes] at h

theorem leBytes_toNat_ofNat {n w : Nat} (v : Nat) (hw : 2 ^ w = 256 ^ n) :
    leBytes n (BitVec.ofNat w v).toNat = leBytes n v := by
  rw [BitVec.toNat_ofNat, hw, leBytes_mod]

theorem ofNat_leNat_leBytes_toNat {n w : Nat} (v : BitVec w) (hw : 2 ^ w = 256 ^ n) :
    BitVec.ofNat w (leNat (leBytes n v.toNat)) = v := by
  rw [leNat_leBytes, ← hw, Nat.mod_eq_of_lt v.isLt, BitVec.ofNat_toNat, BitVec.setWidth_eq]

/-! ### The encoder gives back the opcode byte and the immediate that were decoded -/

/-- The three groups whose formats carry an immediate, row by row (R84). -/
theorem layout_decodeGroup_of_immediate {row : Nat} (imm : Nat) (h : row < 16) :
    (decodeGroup1 row imm).layout = (BitVec.ofNat 8 (16 * row + 1), leBytes (sizeBytes (row / 2)) imm) ∧
    (decodeGroup10 row imm).layout = (BitVec.ofNat 8 (16 * row + 10), leBytes (sizeBytes (row / 2)) imm) ∧
    (decodeGroup12 row imm).layout = (BitVec.ofNat 8 (16 * row + 12), leBytes (sizeBytes (row / 2)) imm) := by
  interval_cases row
  all_goals
    simp (disch := norm_num) only [decodeGroup1, decodeGroup10, decodeGroup12, Instr.layout, sizeBytes,
      leBytes_zero, leBytes_toNat_ofNat, and_self]

/-- The thirteen other groups: an opcode byte and no more. -/
theorem layout_decodeParts_of_no_immediate {op : Byte} (imm : Nat) (h : op.toNat % 16 ∉ [1, 10, 12]) :
    (decodeParts op imm).layout = (op, []) := by
  have himm : decodeParts op imm = decodeParts op 0 := by
    unfold decodeParts
    split
    case h_2 hg | h_11 hg | h_13 hg => simp [hg] at h
    all_goals rfl
  have hzero : ∀ b : Byte, b.toNat % 16 ∉ [1, 10, 12] → (decodeParts b 0).layout = (b, []) := by decide
  rw [himm, hzero op h]

theorem ofNat_row_group {op : Byte} {g : Nat} (h : op.toNat % 16 = g) :
    BitVec.ofNat 8 (16 * (op.toNat / 16) + g) = op := by
  rw [← h, Nat.div_add_mod, BitVec.ofNat_toNat, BitVec.setWidth_eq]

theorem layout_decodeParts (op : Byte) (imm : Nat) :
    (decodeParts op imm).layout = (op, leBytes (immBytes op) imm) := by
  have hrow : op.toNat / 16 < 16 := by have := op.isLt; omega
  have hsize : op.toNat / 16 / 2 = op.toNat / 32 := Nat.div_div_eq_div_mul ..
  obtain ⟨h1, h10, h12⟩ := layout_decodeGroup_of_immediate imm hrow
  by_cases hg : op.toNat % 16 ∈ [1, 10, 12]
  case pos =>
    simp only [List.mem_cons, List.not_mem_nil, or_false] at hg
    rcases hg with hg | hg | hg
    all_goals simp only [decodeParts, immBytes, hg, h1, h10, h12, ofNat_row_group hg, hsize]
  case neg =>
    have hnone : immBytes op = 0 := by
      simp only [List.mem_cons, List.not_mem_nil, or_false, not_or] at hg
      simp [immBytes, hg]
    rw [layout_decodeParts_of_no_immediate imm hg, hnone, leBytes_zero]

theorem opcode_decodeParts (op : Byte) (imm : Nat) : (decodeParts op imm).opcode = op :=
  congrArg Prod.fst (layout_decodeParts op imm)

theorem encode_decodeParts (op : Byte) (imm : Nat) :
    encode (decodeParts op imm) = op :: leBytes (immBytes op) imm := by
  simp only [encode, Instr.opcode, Instr.immediate, layout_decodeParts]

/-! ### Every instruction is decoded from the two parts the encoder writes -/

theorem decodeParts_opcode_immediate (i : Instr) : decodeParts i.opcode (leNat i.immediate) = i := by
  cases i with
  | ulit8 imm | slit8 imm | ulit16 imm | slit16 imm | ulit32 imm | slit32 imm | ulit64 imm | slit64 imm
  | jmp8 imm | call8 imm | jmp16 imm | call16 imm | jmp32 imm | call32 imm | jmp64 imm | call64 imm
  | pear8 imm | pead8 imm | pear16 imm | pead16 imm | pear32 imm | pead32 imm | pear64 imm | pead64 imm =>
    simp [Instr.opcode, Instr.immediate, Instr.layout, decodeParts, decodeGroup1, decodeGroup10, decodeGroup12,
      ofNat_leNat_leBytes_toNat]
  | _ => rfl

theorem length_immediate (i : Instr) : i.immediate.length = immBytes i.opcode := by
  have h := congrArg Prod.snd (layout_decodeParts i.opcode (leNat i.immediate))
  rw [decodeParts_opcode_immediate] at h
  rw [Instr.immediate, h, length_leBytes]

/-- Settles O1: the bytes after the opcode are as many as its immediate has, and the two parts decode to `i`. -/
theorem decodeInvertsEncode : Obligations.DecodeInvertsEncode := fun i _ =>
  decode_eq_ok_iff.mpr ⟨i.opcode, i.immediate, length_immediate i, rfl, (decodeParts_opcode_immediate i).symm⟩

/-- Settles O2: the run is an opcode, its immediate and the rest, and the encoder writes those two parts back. -/
theorem encodeInvertsDecode : Obligations.EncodeInvertsDecode := by
  intro bytes i rest h
  obtain ⟨op, imm, hlen, rfl, rfl⟩ := decode_eq_ok_iff.mp h
  rw [encode_decodeParts, ← hlen, leBytes_leNat, List.cons_append]

/-! ### The classes of the opcode map -/

theorem opcodeClass_decodeParts (op : Byte) (imm : Nat) :
    (decodeParts op imm).opcodeClass = (decodeParts op 0).opcodeClass := by
  unfold decodeParts
  split
  case h_2 => unfold decodeGroup1; split <;> rfl
  case h_11 => unfold decodeGroup10; split <;> rfl
  case h_13 => unfold decodeGroup12; split <;> rfl
  all_goals rfl

/-- Settles O5: the class does not depend on the immediate, which leaves the 256 bytes to go through. -/
theorem illegalPatternsExact : Obligations.IllegalPatternsExact := by
  intro op imm
  rw [opcodeClass_decodeParts]
  revert op
  decide

/-- An opcode of either class that is no instruction does nothing but trap with its own byte (R96, R97, R353). -/
theorem exec_of_not_wellFormed {i : Instr} (s : State) (h : i.wellFormed = false) :
    exec i s = illegalOpcode i.opcode s := by
  cases i
  -- the 130 defined opcodes are well-formed
  all_goals cases h
  all_goals rfl

/-- Settles O60: an instruction of either class is not well-formed. -/
theorem illegalOpcodesTrap : Obligations.IllegalOpcodesTrap := by
  intro i s
  constructor
  case left =>
    intro hclass
    exact exec_of_not_wellFormed s (by simp [Instr.wellFormed, Instr.notListedIllegal, hclass])
  case right =>
    intro hclass
    exact exec_of_not_wellFormed s (by simp [Instr.wellFormed, Instr.notUnassigned, hclass])

/-- Settles O3: each run but the last is the encoding of its instruction; the last lacks one of two bytes. -/
theorem writtenWordsDecode : Obligations.WrittenWordsDecode :=
  ⟨decodeInvertsEncode .sc [], decodeInvertsEncode (.slit16 0x8000#16) [], decodeInvertsEncode .bic [],
    decodeInvertsEncode .negOne1 [], decodeInvertsEncode .twodupSbcMinus1 [], decodeInvertsEncode .condZC1 [],
    decodeInvertsEncode (.call32 0xFFFFF000#32) [], decodeInvertsEncode .permute [],
    decodeInvertsEncode (.pead8 0xF0#8) [], decodeInvertsEncode .st16 [], decodeInvertsEncode .sld32 [],
    decodeInvertsEncode .illegalE0 [], decodeInvertsEncode .unassigned98 [], rfl⟩

/-- Settles O4: the classes of the 256 bytes, counted. -/
theorem opcodesByClass : Obligations.OpcodesByClass := by
  unfold Obligations.OpcodesByClass
  decide +kernel

/-! ### Lengths -/

theorem length_encode (i : Instr) : (encode i).length = 1 + immBytes i.opcode := by
  rw [encode, List.length_cons, length_immediate, Nat.add_comm]

/-- The count of immediate bytes as the size field gives it (R80, R84). -/
theorem immBytes_eq (op : Byte) :
    immBytes op = if op.toNat % 16 ∈ [1, 10, 12] ∧ op.toNat < 128 then 2 ^ (op.toNat / 32) else 0 := by
  revert op
  decide

theorem immBytes_mem (op : Byte) : immBytes op ∈ [0, 1, 2, 4, 8] := by
  revert op
  decide

/-- Settles O6: the length is one more than the number of immediate bytes. -/
theorem instructionLength : Obligations.InstructionLength := by
  intro i
  have hmem := immBytes_mem i.opcode
  constructor
  case left => rw [length_encode, immBytes_eq]
  case right =>
    rw [length_encode]
    simp only [List.mem_cons, List.not_mem_nil, or_false] at hmem ⊢
    omega

end Sys2Proof
end

section
/-! PROOF. Group 0 (40_group0.md) and COND after SEC (45_cond.md): the state each operation answers, one equation
per operation, and the instructions assembled from them. -/

namespace Sys2Proof.Machine

variable {s : State}

/-! ### The stack operations: with a cell or room, and without -/

section Stacks

variable {x v : Cell} {rest : List Cell} {k : Cell → State → Result} {k' : State → Result}

theorem popD_of_cons (h : s.D = x :: rest) : popD s k = k x (s.withD rest) := by
  simp only [popD, h]

theorem popD_of_nil (h : s.D = []) : popD s k = .fault .dstackUnderflow := by
  simp only [popD, h]

theorem popS_of_cons {top : Cell} (h : s.D = top :: x :: rest) : popS s k = k x (s.withD (top :: rest)) := by
  simp only [popS, h]

theorem popR_of_cons (h : s.Rs = x :: rest) : popR s k = k x (s.withRs rest) := by
  simp only [popR, h]

theorem popR_of_nil (h : s.Rs = []) : popR s k = .fault .rstackUnderflow := by
  simp only [popR, h]

theorem pushD_of_hasRoom (h : hasRoom s.config.dsDepth s.D = true) : pushD v s k' = k' (s.withD (v :: s.D)) :=
  if_pos h

theorem pushD_of_full (h : hasRoom s.config.dsDepth s.D = false) : pushD v s k' = .fault .dstackOverflow :=
  if_neg (by simp [h])

theorem pushR_of_hasRoom (h : hasRoom s.config.rsDepth s.Rs = true) : pushR v s k' = k' (s.withRs (v :: s.Rs)) :=
  if_pos h

theorem pushR_of_full (h : hasRoom s.config.rsDepth s.Rs = false) : pushR v s k' = .fault .rstackOverflow :=
  if_neg (by simp [h])

end Stacks

/-! ### The latches and the `pc` at the end of an instruction -/

/-- The condition is TRUE unless a COND left FALSE (R31): a choice by it, as the spec's rules word it. -/
theorem State.ite_cond {α : Type} (s : State) (x y : α) :
    (if s.cond then x else y) = if s.condp = some false then y else x := by
  cases h : s.condp with
  | none => simp [State.cond, h]
  | some b => cases b <;> simp [State.cond, h]

theorem State.advance_takeLatches_plain (n : Nat) (s : State) :
    (s.takeLatches .plain).advance n = s.after n s.D s.Rs := by
  apply State.eq_of_fields <;> simp [State.after, State.takeLatches_condp, State.takeLatches_secp]

theorem State.withPc_takeLatches_transfer (a : Cell) (s : State) :
    (s.takeLatches .transfer).withPc a = s.transferred a s.D s.Rs := by
  apply State.eq_of_fields <;> simp [State.transferred, State.takeLatches_condp, State.takeLatches_secp]

theorem State.advance_takeLatches_transfer (n : Nat) (s : State) :
    (s.takeLatches .transfer).advance n = s.transferred (s.pc + BitVec.ofNat 64 n) s.D s.Rs := by
  rw [State.advance, State.withPc_takeLatches_transfer, State.takeLatches_pc]

theorem State.advance_withCondp_takeLatches_cond (n : Nat) (b : Bool) (s : State) :
    ((s.takeLatches .cond).withCondp (some b)).advance n =
      { s.after n s.D s.Rs with condp := some b, secp := false } := by
  apply State.eq_of_fields <;> simp [State.after, State.takeLatches_secp]

theorem finish_eq (len : Nat) (s : State) : finish len s = .next (s.after len s.D s.Rs) :=
  congrArg _ (State.advance_takeLatches_plain len s)

/-- A transfer of one byte whose condition was read before its operand was popped: `pc` is the target or the next
byte, and the latches are taken either way (R31, R33). -/
theorem transferOrPass_eq (s t : State) (a : Cell) :
    (if s.cond then .next ((t.takeLatches .transfer).withPc a) else .next ((t.takeLatches .transfer).advance 1)) =
      (.next (t.transferred (if s.condp = some false then t.pc + 1 else a) t.D t.Rs) : Result) := by
  rw [State.withPc_takeLatches_transfer, State.advance_takeLatches_transfer, State.ite_cond]
  split <;> rfl

/-- BRK and SC: the trap with both latches cleared, or one byte passed (R120, R121). -/
theorem trapIfCond_eq (tr : Trap) (s : State) :
    trapIfCond tr s = .next (if s.condp = some false then s.transferred (s.pc + 1) s.D s.Rs
      else { s with condp := none, secp := false, trap := some tr }) := by
  rw [trapIfCond, State.ite_cond, State.advance_takeLatches_transfer]
  split <;> rfl

/-! ### POP, PUSH and R@ -/

section Moves

variable {x : Cell} {rest : List Cell}

theorem execPop_of_hasRoom (hRs : s.Rs = x :: rest) (hroom : hasRoom s.config.dsDepth s.D = true) :
    execPop s = .next (s.after 1 (x :: s.D) rest) := by
  rw [execPop, popR_of_cons hRs, pushD_of_hasRoom (s := s.withRs rest) hroom, finish_eq]
  rfl

theorem execPop_of_full (hRs : s.Rs = x :: rest) (hfull : hasRoom s.config.dsDepth s.D = false) :
    execPop s = .fault .dstackOverflow := by
  rw [execPop, popR_of_cons hRs, pushD_of_full (s := s.withRs rest) hfull]

theorem execPop_of_nil (hRs : s.Rs = []) : execPop s = .fault .rstackUnderflow := popR_of_nil hRs

/-- R@ with a cell to copy is the push of that cell. -/
theorem execRFetch_of_cons (hRs : s.Rs = x :: rest) : execRFetch s = pushD x s (finish 1) := by
  simp only [execRFetch, hRs]

theorem execRFetch_of_hasRoom (hRs : s.Rs = x :: rest) (hroom : hasRoom s.config.dsDepth s.D = true) :
    execRFetch s = .next (s.after 1 (x :: s.D) (x :: rest)) := by
  rw [execRFetch_of_cons hRs, pushD_of_hasRoom hroom, finish_eq, ← hRs]
  rfl

theorem execRFetch_of_full (hRs : s.Rs = x :: rest) (hfull : hasRoom s.config.dsDepth s.D = false) :
    execRFetch s = .fault .dstackOverflow := by
  rw [execRFetch_of_cons hRs, pushD_of_full hfull]

theorem execRFetch_of_nil (hRs : s.Rs = []) : execRFetch s = .fault .rstackUnderflow := by
  simp only [execRFetch, hRs]

theorem execPush_of_hasRoom (hD : s.D = x :: rest) (hroom : hasRoom s.config.rsDepth s.Rs = true) :
    execPush s = .next (s.after 1 rest (x :: s.Rs)) := by
  rw [execPush, popD_of_cons hD, pushR_of_hasRoom (s := s.withD rest) hroom, finish_eq]
  rfl

theorem execPush_of_full (hD : s.D = x :: rest) (hfull : hasRoom s.config.rsDepth s.Rs = false) :
    execPush s = .fault .rstackOverflow := by
  rw [execPush, popD_of_cons hD, pushR_of_full (s := s.withD rest) hfull]

theorem execPush_of_nil (hD : s.D = []) : execPush s = .fault .dstackUnderflow := popD_of_nil hD

end Moves

/-- Settles O33: the cell popped is the cell pushed, and the fault is that of the first stack operation to fail. -/
theorem stackMoves : Obligations.StackMoves := by
  refine ⟨?fromRs, ?noRs, ?fromD, ?noD⟩
  case fromRs =>
    intro s x rest hRs
    exact ⟨fun hroom => ⟨execPop_of_hasRoom hRs hroom, execRFetch_of_hasRoom hRs hroom⟩,
      fun hfull => ⟨execPop_of_full hRs hfull, execRFetch_of_full hRs hfull⟩⟩
  case noRs => exact fun s hRs => ⟨execPop_of_nil hRs, execRFetch_of_nil hRs⟩
  case fromD =>
    intro s x rest hD
    exact ⟨execPush_of_hasRoom hD, execPush_of_full hD⟩
  case noD => exact fun s hD => execPush_of_nil hD

/-! ### BRK, JMPDI, RET and SEC -/

/-- Settles O31: BRK is `trapIfCond` with the trap BREAKPOINT at its own address. -/
theorem brkTraps : Obligations.BrkTraps := fun s => trapIfCond_eq (.breakpoint s.pc) s

/-- JMPDI pops its address before it looks at the condition (R124). -/
theorem execJmpdi_of_cons {a : Cell} {rest : List Cell} (hD : s.D = a :: rest) :
    execJmpdi s = .next (s.transferred (if s.condp = some false then s.pc + 1 else a) rest s.Rs) := by
  rw [execJmpdi, popD_of_cons hD, transferOrPass_eq]
  rfl

theorem execJmpdi_of_nil (hD : s.D = []) : execJmpdi s = .fault .dstackUnderflow := popD_of_nil hD

/-- RET pops its address before it looks at the condition (R126). -/
theorem execRet_of_cons {a : Cell} {rest : List Cell} (hRs : s.Rs = a :: rest) :
    execRet s = .next (s.transferred (if s.condp = some false then s.pc + 1 else a) s.D rest) := by
  rw [execRet, popR_of_cons hRs, transferOrPass_eq]
  rfl

theorem execRet_of_nil (hRs : s.Rs = []) : execRet s = .fault .rstackUnderflow := popR_of_nil hRs

/-- Settles O34: with an address present it is popped on both outcomes of the condition; without one, the pop faults. -/
theorem jmpdiAndRet : Obligations.JmpdiAndRet := fun _ _ _ =>
  ⟨execJmpdi_of_cons, execRet_of_cons, execJmpdi_of_nil, execRet_of_nil⟩

/-- Settles O37: SEC ends like an instruction that reads neither latch, but for the latch it sets. -/
theorem secSetsItsLatch : Obligations.SecSetsItsLatch := by
  intro s
  calc exec .sec s
      = .next (((s.takeLatches .plain).advance 1).withSecp true) := rfl
    _ = .next { s.after 1 s.D s.Rs with secp := true } := by rw [State.advance_takeLatches_plain]; rfl

/-! ### COND, alone and after SEC -/

/-- Each COND is the one meaning of the group, for some selection of the three terms and of the value compared. -/
theorem exec_eq_condPrefix_of_isCond {i : Instr} (h : i.isCond = true) :
    ∃ a b c y, exec i = condPrefix a b c y := by
  cases i
  case condAlways | condNever | condC0 | condC1 | condNz | condZ | condNzC0 | condZC1 | condGe | condLt
    | condGeC0 | condLtC1 | condGt | condLe | condGtC0 | condLeC1 => exact ⟨_, _, _, _, rfl⟩
  -- the 240 other instructions are no COND
  all_goals cases h

theorem condPrefix_of_not_secp {a b c y : Bool} {x : Cell} {rest : List Cell} (hsec : s.secp = false)
    (hD : s.D = x :: rest) :
    condPrefix a b c y s =
      .next { s.after 1 rest s.Rs with condp := some (condTest a b c y x s.C), secp := false } := by
  rw [condPrefix, if_neg (by simp [hsec]), popD_of_cons hD, State.advance_withCondp_takeLatches_cond]
  rfl

theorem condPrefix_of_secp {a b c y : Bool} {top x : Cell} {rest : List Cell} (hsec : s.secp = true)
    (hD : s.D = top :: x :: rest) :
    condPrefix a b c y s =
      .next { s.after 1 (top :: rest) s.Rs with condp := some (condTest a b c y x s.C), secp := false } := by
  rw [condPrefix, if_pos hsec, popS_of_cons hD, State.advance_withCondp_takeLatches_cond]
  rfl

/-- Settles O48: both runs latch the test of the same cell under the same carry. -/
theorem condAfterSecTestsTheSecond : Obligations.CondAfterSecTestsTheSecond := by
  intro i s top x rest hi hsec hD
  obtain ⟨a, b, c, y, hexec⟩ := exec_eq_condPrefix_of_isCond hi
  refine ⟨condTest a b c y x s.C, ?alone, ?afterSec⟩
  case alone =>
    rw [hexec, condPrefix_of_not_secp (s := { s with secp := false, D := x :: rest }) rfl rfl]
    simp only [State.after, ite_self]
  case afterSec => rw [hexec, condPrefix_of_secp hsec hD]

end Sys2Proof.Machine
end

section
/-! PROOF. The literals (41_literals.md): one equation for the group, and the widening that each of the eight applies. -/

namespace Sys2Proof.Machine

variable {s : State}

/-- With room, a literal of `n` immediate bytes passes the opcode and those bytes and pushes its value (R151 to R158). -/
theorem literal_of_hasRoom (n : Nat) (v : Cell) (hroom : hasRoom s.config.dsDepth s.D = true) :
    literal n v s = .next (s.after (1 + n) (v :: s.D) s.Rs) := by
  rw [literal, pushD_of_hasRoom hroom, finish_eq]
  rfl

section Widening

variable {w : Nat}

/-- A ULIT's zero extension is the cell of the unsigned value of its immediate (D2). -/
theorem literal_zeroExtend_of_hasRoom (n : Nat) (imm : BitVec w) (hroom : hasRoom s.config.dsDepth s.D = true) :
    literal n (imm.zeroExtend 64) s = .next (s.after (1 + n) (BitVec.ofNat 64 imm.toNat :: s.D) s.Rs) := by
  rw [literal_of_hasRoom n _ hroom, BitVec.ofNat_toNat]

/-- A SLIT's sign extension is the cell of the signed value of its immediate (D2). -/
theorem literal_signExtend_of_hasRoom (n : Nat) (imm : BitVec w) (hroom : hasRoom s.config.dsDepth s.D = true) :
    literal n (imm.signExtend 64) s = .next (s.after (1 + n) (BitVec.ofInt 64 imm.toInt :: s.D) s.Rs) := by
  rw [literal_of_hasRoom n _ hroom, BitVec.signExtend]

end Widening

/-- Settles O40: the narrower immediates are widened, and a 64-bit immediate is the cell itself. -/
theorem literalsPush : Obligations.LiteralsPush := by
  intro s v8 v16 v32 v64 hroom
  refine ⟨?ulit8, ?slit8, ?ulit16, ?slit16, ?ulit32, ?slit32, ?ulit64, ?slit64⟩
  case ulit8 => exact literal_zeroExtend_of_hasRoom 1 v8 hroom
  case slit8 => exact literal_signExtend_of_hasRoom 1 v8 hroom
  case ulit16 => exact literal_zeroExtend_of_hasRoom 2 v16 hroom
  case slit16 => exact literal_signExtend_of_hasRoom 2 v16 hroom
  case ulit32 => exact literal_zeroExtend_of_hasRoom 4 v32 hroom
  case slit32 => exact literal_signExtend_of_hasRoom 4 v32 hroom
  case ulit64 | slit64 => exact literal_of_hasRoom 8 v64 hroom

end Sys2Proof.Machine
end

section
/-! PROOF. The one-bit shifts (47_shifts.md R291): the operand without the bit that leaves it, next to the bit that
enters at the other end. -/

namespace Sys2Proof.Machine

/-! ### The words the steps are built from, as concatenations -/

theorem shiftLeft_one_eq_append (n : Cell) : n <<< 1 = (n.extractLsb' 0 63 ++ 0#1 : BitVec 64) :=
  BitVec.shiftLeft_eq_concat_of_lt (by decide)

theorem ushiftRight_one_eq_append (n : Cell) : n >>> 1 = (0#1 ++ n.extractLsb' 1 63 : BitVec 64) :=
  BitVec.ushiftRight_eq_extractLsb'_of_lt (by decide)

theorem zeroExtend_bit_eq_append (b : BitVec 1) : b.zeroExtend 64 = (0#63 ++ b : BitVec 64) :=
  BitVec.setWidth_eq_append (by decide)

theorem zeroExtend_bit_shiftLeft_eq_append (b : BitVec 1) : b.zeroExtend 64 <<< 63 = (b ++ 0#63 : BitVec 64) := by
  have happend : b.zeroExtend 64 <<< 63 = ((b.zeroExtend 64).extractLsb' 0 1 ++ 0#63 : BitVec 64) :=
    BitVec.shiftLeft_eq_concat_of_lt (by decide)
  rw [happend, BitVec.extractLsb'_setWidth_of_le (by decide), BitVec.extractLsb'_eq_self]

theorem extractLsb'_one_eq_ofBool {w : Nat} (n : BitVec w) (i : Nat) :
    n.extractLsb' i 1 = BitVec.ofBool (n.getLsbD i) := by
  rw [← BitVec.setWidth_ushiftRight_eq_extractLsb, BitVec.setWidth_one, BitVec.getLsbD_ushiftRight, Nat.add_zero]

theorem msb_eq_getLsbD_63 (n : Cell) : n.msb = n.getLsbD 63 := BitVec.msb_eq_getLsbD_last n

/-! ### One bit enters: at the bottom of a left step, at the top of a right step -/

/-- The bit that enters falls on the zero the left shift leaves at the bottom. -/
theorem shiftLeft_one_or_bit (n : Cell) (b : BitVec 1) :
    n <<< 1 ||| b.zeroExtend 64 = (n.extractLsb' 0 63 ++ b : BitVec 64) := by
  rw [shiftLeft_one_eq_append, zeroExtend_bit_eq_append, BitVec.or_append, BitVec.or_zero, BitVec.zero_or]

/-- The bit that enters falls on the zero the right shift leaves at the top. -/
theorem ushiftRight_one_or_bit (n : Cell) (b : BitVec 1) :
    n >>> 1 ||| b.zeroExtend 64 <<< 63 = (b ++ n.extractLsb' 1 63 : BitVec 64) := by
  rw [ushiftRight_one_eq_append, zeroExtend_bit_shiftLeft_eq_append, BitVec.or_append, BitVec.zero_or, BitVec.or_zero]

/-- An arithmetic right step is the one whose entering bit is the sign: each lower bit comes from the bit above it. -/
theorem sshiftRight_one_eq_append (n : Cell) :
    n.sshiftRight 1 = (BitVec.ofBool n.msb ++ n.extractLsb' 1 63 : BitVec 64) := by
  ext i hi
  rw [BitVec.getElem_sshiftRight, BitVec.getElem_append]
  by_cases hlow : i < 63
  · have hnext : 1 + i < 64 := by omega
    rw [dif_pos hnext, dif_pos hlow, BitVec.getElem_extractLsb', BitVec.getLsbD_eq_getElem]
  · have htop : ¬ 1 + i < 64 := by omega
    rw [dif_neg htop, dif_neg hlow, BitVec.getElem_ofBool]

/-- Settles O53: the seven steps differ in the bit that enters, which is a zero, an end of the operand or the carry. -/
theorem oneBitSteps : Obligations.OneBitSteps := by
  intro n c
  refine ⟨?lsl, ?lsr, ?asr, ?rl, ?rr, ?rlc, ?rrc⟩
  case lsl => rw [shiftStep, shiftLeft_one_eq_append, msb_eq_getLsbD_63]
  case lsr => rw [shiftStep, ushiftRight_one_eq_append]
  case asr => rw [shiftStep, sshiftRight_one_eq_append, msb_eq_getLsbD_63, extractLsb'_one_eq_ofBool]
  case rl => rw [shiftStep, shiftLeft_one_or_bit, msb_eq_getLsbD_63, extractLsb'_one_eq_ofBool]
  case rr => rw [shiftStep, ushiftRight_one_or_bit, extractLsb'_one_eq_ofBool]
  case rlc => rw [shiftStep, shiftLeft_one_or_bit, msb_eq_getLsbD_63]
  case rrc => rw [shiftStep, ushiftRight_one_or_bit]

end Sys2Proof.Machine
end

section
/-! PROOF. The rules of the whole machine: what a step can do, said once, and what follows for every instruction from
the shapes of `Effect` — the invariant, the frames, precise traps, the life of a latch. -/

namespace Sys2Proof.Machine

variable {s t : State} {i : Instr}

/-! ### What a step can do -/

/-- A step answers a pending trap, or, with none pending, traps on a fetch or executes an instruction (R41, R352). -/
theorem step_next (h : step s = .next t) :
    (s.trap ≠ none ∧ ∃ u, t = s.adopt 0 u) ∨
      (s.trap = none ∧ ∃ a n, t = s.withTrap (some (.memFault a n .fetch))) ∨
      (s.trap = none ∧ ∃ i, exec i s = .next t) := by
  unfold step at h
  split at h
  case h_1 tr htr =>
    obtain ⟨-, u, -, rfl⟩ := answerTrap_next h
    exact .inl ⟨by simp [htr], u, rfl⟩
  case h_2 htr =>
    rcases fetchInstr_next h with ⟨i, hi⟩ | rfl | ⟨n, rfl⟩
    · exact .inr (.inr ⟨htr, i, hi⟩)
    · exact .inr (.inl ⟨htr, _, _, rfl⟩)
    · exact .inr (.inl ⟨htr, _, _, rfl⟩)

/-! ### A store, field by field -/

@[simp] theorem State.store_D (s : State) (a : Cell) (n v : Nat) : (s.store a n v).D = s.D := rfl
@[simp] theorem State.store_Rs (s : State) (a : Cell) (n v : Nat) : (s.store a n v).Rs = s.Rs := rfl
@[simp] theorem State.store_pc (s : State) (a : Cell) (n v : Nat) : (s.store a n v).pc = s.pc := rfl
@[simp] theorem State.store_C (s : State) (a : Cell) (n v : Nat) : (s.store a n v).C = s.C := rfl
@[simp] theorem State.store_condp (s : State) (a : Cell) (n v : Nat) : (s.store a n v).condp = s.condp := rfl
@[simp] theorem State.store_secp (s : State) (a : Cell) (n v : Nat) : (s.store a n v).secp = s.secp := rfl
@[simp] theorem State.store_IE (s : State) (a : Cell) (n v : Nat) : (s.store a n v).IE = s.IE := rfl
@[simp] theorem State.store_mem (s : State) (a : Cell) (n v : Nat) : (s.store a n v).mem = s.mem.write a n v := rfl
@[simp] theorem State.store_platform (s : State) (a : Cell) (n v : Nat) :
    (s.store a n v).platform = s.platform := rfl
@[simp] theorem State.store_trap (s : State) (a : Cell) (n v : Nat) : (s.store a n v).trap = s.trap := rfl
@[simp] theorem State.store_stored (s : State) (a : Cell) (n v : Nat) :
    (s.store a n v).stored = if s.config.fetchCoherent then s.stored else insertAddrs a n s.stored := rfl
@[simp] theorem State.store_config (s : State) (a : Cell) (n v : Nat) : (s.store a n v).config = s.config := rfl

/-! ### The invariant -/

theorem State.inv_iff :
    s.inv = true ↔ s.mem.wf = true ∧ fits s.config.dsDepth s.D = true ∧ fits s.config.rsDepth s.Rs = true ∧
      risingAbove 0 s.stored = true := by
  simp [State.inv, and_assoc]

theorem FitsOr.fits {depth : Option Nat} {new old : List Cell} (h : FitsOr depth new old)
    (hold : Machine.fits depth old = true) : Machine.fits depth new = true :=
  h.elim id (fits_of_length_le hold)

/-- A stack that holds a cell and fits its capacity has a capacity other than 0. -/
theorem ne_some_zero_of_fits {depth : Option Nat} {xs : List Cell} (h : fits depth xs = true) (hxs : xs ≠ []) :
    depth ≠ some 0 := by
  rintro rfl
  exact hxs (by simpa [fits] using h)

/-- A store notes rising addresses, under either setting of FETCH_COHERENT. -/
theorem State.risingAbove_stored_store {a : Cell} {n v : Nat} (h : risingAbove 0 s.stored = true) :
    risingAbove 0 (s.store a n v).stored = true := by
  rw [State.store_stored]
  split
  · exact h
  · exact risingAbove_insertAddrs h

theorem Effect.inv (e : Effect s i t) (hs : s.inv = true) : t.inv = true := by
  obtain ⟨hmem, hD, hRs, hstored⟩ := State.inv_iff.mp hs
  cases e with
  | trap | stop | sec | enable => simp [State.inv_iff, hmem, hD, hRs, hstored]
  | data len d c _ _ _ _ _ room => simp [State.inv_iff, hmem, room.fits hD, hRs, hstored]
  | move len d rs _ _ _ _ _ room roomR => simp [State.inv_iff, hmem, room.fits hD, roomR.fits hRs, hstored]
  | transfer target d rs _ _ _ room roomR =>
    simp [State.inv_iff, hmem, fits_of_length_le hD room, roomR.fits hRs, hstored]
  | cond d b _ room => simp [State.inv_iff, hmem, fits_of_length_le hD room, hRs, hstored]
  | store a n v d _ room =>
    have hstored' := State.risingAbove_stored_store (a := a) (n := n) (v := v) hstored
    simp [-State.store_stored, State.inv_iff, Memory.wf_write a n v hmem, fits_of_length_le hD room, hRs, hstored']
  | wrote u => exact State.inv_adopt 0 u hstored
  | read u v _ present =>
    obtain ⟨humem, -, huRs, hustored⟩ := State.inv_iff.mp (State.inv_adopt 1 u hstored)
    have hcons : fits s.config.dsDepth (v :: (s.adopt 1 u).D) = true :=
      fits_cons_fitStack (ne_some_zero_of_fits hD present)
    exact State.inv_iff.mpr ⟨humem, hcons, huRs, hustored⟩

/-- Settles O15: an answer of the environment is read as a state of the machine, a trapped fetch changes nothing the
invariant speaks of, and an instruction leaves one of the shapes of `Effect`. -/
theorem invKeptByStep : Obligations.InvKeptByStep := by
  intro s t hs h
  rcases step_next h with ⟨-, u, rfl⟩ | ⟨-, a, n, rfl⟩ | ⟨-, i, hi⟩
  · obtain ⟨-, -, -, hstored⟩ := State.inv_iff.mp hs
    exact State.inv_adopt 0 u hstored
  · exact hs
  · exact (exec_effect hi).inv hs

/-! ### What no step and what only some instructions change -/

theorem Effect.config (e : Effect s i t) : t.config = s.config := by
  cases e <;> simp [State.adopt]

/-- Settles O16: neither an answer of the environment nor an instruction changes a parameter. -/
theorem parametersNeverChange : Obligations.ParametersNeverChange := by
  intro s t h
  rcases step_next h with ⟨-, u, rfl⟩ | ⟨-, a, n, rfl⟩ | ⟨-, i, hi⟩
  · rfl
  · rfl
  · exact (exec_effect hi).config

/-- Settles O17: of the shapes of `Effect` only `enable`, DI's and EI's, has a new `IE`. -/
theorem onlyDiEiWriteInterruptEnable : Obligations.OnlyDiEiWriteInterruptEnable := by
  intro i s t h hdi hei henv
  cases exec_effect h with
  | enable b which => exact absurd which (by simp [hdi, hei])
  | wrote u asks | read u v asks => simp [henv] at asks
  | _ => simp

/-- Settles O18: only the shape `data` has a new `C`, and then of an instruction that writes it. -/
theorem onlyNamedWriteCarry : Obligations.OnlyNamedWriteCarry := by
  intro i s t h hwrites henv
  cases exec_effect h with
  | data len d c _ _ _ carry => simpa [hwrites] using carry
  | wrote u asks | read u v asks => simp [henv] at asks
  | _ => simp

/-- Settles O19: only `move` and `transfer` have a new return stack, and then of an instruction that writes it. -/
theorem onlyNamedWriteReturnStack : Obligations.OnlyNamedWriteReturnStack := by
  intro i s t h hwrites henv
  cases exec_effect h with
  | move len d rs writes => simp [hwrites] at writes
  | transfer target d rs _ stackR => simpa [hwrites] using stackR
  | wrote u asks | read u v asks => simp [henv] at asks
  | _ => simp

/-- The instructions that spare the data stack are none of those with a shape of their own that does not. -/
theorem not_sparesDataStack_of_isCond (h : i.isCond = true) : i.sparesDataStack = false := by
  cases i
  case condAlways | condNever | condC0 | condC1 | condNz | condZ | condNzC0 | condZC1 | condGe | condLt
    | condGeC0 | condLtC1 | condGt | condLe | condGtC0 | condLeC1 => rfl
  -- the 240 other instructions are no COND
  all_goals cases h

theorem not_sparesDataStack_of_isStore (h : i.isStore = true) : i.sparesDataStack = false := by
  cases i
  case st8 | st16 | st32 | st64 => rfl
  -- the 252 other instructions are no store
  all_goals cases h

theorem not_sparesDataStack_of_asksEnvironment (h : i.asksEnvironment = true) : i.sparesDataStack = false := by
  cases i
  case crStore | crFetch => rfl
  -- the 254 other instructions ask the environment nothing
  all_goals cases h

/-- Settles O20: a shape with a new data stack is that of an instruction that does not spare it. -/
theorem dataStackSpared : Obligations.DataStackSpared := by
  intro i s t h hspares
  cases exec_effect h with
  | data len d c _ _ _ _ stack => simpa [hspares] using stack
  | move len d rs _ _ _ _ stack => simpa [hspares] using stack
  | transfer target d rs _ _ stack => simpa [hspares] using stack
  | cond d b isCond => simp [not_sparesDataStack_of_isCond isCond] at hspares
  | store a n v d isStore => simp [not_sparesDataStack_of_isStore isStore] at hspares
  | wrote u asks | read u v asks => simp [not_sparesDataStack_of_asksEnvironment asks] at hspares
  | trap | stop | sec | enable => simp

/-- Settles O21: memory itself, and so each of its bytes, is new in the shape `store` alone. -/
theorem onlyStoresWriteMemory : Obligations.OnlyStoresWriteMemory := by
  intro i s t h hstore henv a
  have hmem : t.mem = s.mem := by
    cases exec_effect h with
    | store a n v d isStore => simp [hstore] at isStore
    | wrote u asks | read u v asks => simp [henv] at asks
    | _ => simp
  rw [hmem]

/-- Settles O22: the platform's state is new only in an answer of the environment. -/
theorem onlyCrReachesTheEnvironment : Obligations.OnlyCrReachesTheEnvironment := by
  intro i s t h henv
  cases exec_effect h with
  | wrote u asks | read u v asks => simp [henv] at asks
  | _ => simp

/-! ### Traps -/

/-- An instruction that is run with no trap pending and leaves one has changed nothing else, or the two latches. -/
theorem Effect.trapped {tr : Trap} (e : Effect s i t) (hs : s.trap = none) (ht : t.trap = some tr) :
    t = s.trapped tr ∨
      ((tr = .breakpoint s.pc ∨ tr = .syscall s.pc) ∧ t = { s with condp := none, secp := false, trap := some tr }) := by
  cases e with
  | trap tr' =>
    obtain rfl : tr' = tr := by simpa using ht
    exact .inl rfl
  | stop tr' _ _ which =>
    obtain rfl : tr' = tr := by simpa using ht
    exact .inr ⟨which, rfl⟩
  -- every other shape leaves the trap that was pending, and an answer of the environment none
  | wrote u | read u v => simp [State.adopt] at ht
  | _ => simp [hs] at ht

/-- Settles O23: the trap is that of the fetch, or of the instruction. -/
theorem trapsArePrecise : Obligations.TrapsArePrecise := by
  intro s t tr hs h ht
  rcases step_next h with ⟨hne, -⟩ | ⟨-, a, n, rfl⟩ | ⟨-, i, hi⟩
  · exact absurd hs hne
  · obtain rfl : Trap.memFault a n .fetch = tr := by simpa using ht
    exact .inl rfl
  · exact (exec_effect hi).trapped hs ht

/-! ### The latches -/

theorem not_isCond_and_ne_sec_of_readsCond (h : i.readsCond = true) : i.isCond = false ∧ i ≠ .sec := by
  cases i
  case brk | sc | jmpdi | calldi | ret | switch | jmp8 | jmp16 | jmp32 | jmp64 | call8 | call16 | call32 | call64 =>
    exact ⟨rfl, nofun⟩
  -- the 242 other instructions do not read the condition
  all_goals cases h

theorem not_isCond_and_ne_sec_of_isStore (h : i.isStore = true) : i.isCond = false ∧ i ≠ .sec := by
  cases i
  case st8 | st16 | st32 | st64 => exact ⟨rfl, nofun⟩
  -- the 252 other instructions are no store
  all_goals cases h

/-- Settles O24: with PREFIX_PERSIST false every shape takes both latches, and only `cond` and `sec` set one again. -/
theorem latchesServeOneInstruction : Obligations.LatchesServeOneInstruction := by
  intro i s t hpersist _ h ht henv
  cases exec_effect h with
  | trap | stop => simp at ht
  | data len d c notCond notSec | move len d rs _ notCond notSec =>
    simp [State.takeLatches_condp, State.takeLatches_secp, hpersist, notCond, notSec]
  | transfer target d rs reads =>
    obtain ⟨notCond, notSec⟩ := not_isCond_and_ne_sec_of_readsCond reads
    simp [State.takeLatches_condp, State.takeLatches_secp, hpersist, notCond, notSec]
  | store a n v d isStore =>
    obtain ⟨notCond, notSec⟩ := not_isCond_and_ne_sec_of_isStore isStore
    simp [State.takeLatches_condp, State.takeLatches_secp, hpersist, notCond, notSec]
  | cond d b isCond =>
    have notSec : i ≠ .sec := by rintro rfl; cases isCond
    simp [State.takeLatches_secp, hpersist, isCond, notSec]
  | sec isSec => subst isSec; simp [State.takeLatches_condp, hpersist, Instr.isCond]
  | enable b which =>
    rcases which with rfl | rfl <;>
      simp [State.takeLatches_condp, State.takeLatches_secp, hpersist, Instr.isCond]
  | wrote u asks | read u v asks => simp [henv] at asks

end Sys2Proof.Machine
end

section
/-! PROOF. Stores and loads (49_loads_stores.md): the state each answers where the access is permitted, the trap where
it is not, and the bytes and bits the two move. -/

namespace Sys2Proof.Machine

variable {s : State}

/-! ### An access is aligned and permitted, or traps -/

theorem State.misaligned_eq_false {a : Cell} {n : Nat} (h : s.config.alignStrict = true → a.toNat % n = 0) :
    s.misaligned a n = false := by
  cases hstrict : s.config.alignStrict with
  | false => simp [State.misaligned, hstrict]
  | true => simp [State.misaligned, h hstrict]

theorem State.misaligned_eq_true {a : Cell} {n : Nat} (hstrict : s.config.alignStrict = true) (h : a.toNat % n ≠ 0) :
    s.misaligned a n = true := by
  simp [State.misaligned, hstrict, h]

theorem memWrite_of_permitted {a : Cell} {n v : Nat} {k : State → Result}
    (halign : s.config.alignStrict = true → a.toNat % n = 0) (haccess : s.access a n .store = true) :
    memWrite s a n v k = k (s.store a n v) := by
  rw [memWrite, State.misaligned_eq_false halign, if_neg Bool.false_ne_true, if_pos haccess]

theorem memRead_of_permitted {a : Cell} {n : Nat} {k : Nat → Result}
    (halign : s.config.alignStrict = true → a.toNat % n = 0) (haccess : s.access a n .load = true) :
    memRead s a n k = k (s.mem.read a n) := by
  rw [memRead, State.misaligned_eq_false halign, if_neg Bool.false_ne_true, if_pos haccess]

/-- Alignment is checked first, but either ground gives the same trap (R57, R356). -/
theorem memWrite_of_refused {a : Cell} {n v : Nat} {k : State → Result}
    (h : s.config.alignStrict = true ∧ a.toNat % n ≠ 0 ∨ s.access a n .store = false) :
    memWrite s a n v k = .next (s.trapped (.memFault a n .store)) := by
  unfold memWrite
  split
  case isTrue => rfl
  case isFalse haligned =>
    have haccess : s.access a n .store = false :=
      h.resolve_left fun ⟨hstrict, hmod⟩ => haligned (State.misaligned_eq_true hstrict hmod)
    rw [haccess, if_neg Bool.false_ne_true]
    rfl

theorem memRead_of_refused {a : Cell} {n : Nat} {k : Nat → Result}
    (h : s.config.alignStrict = true ∧ a.toNat % n ≠ 0 ∨ s.access a n .load = false) :
    memRead s a n k = .next (s.trapped (.memFault a n .load)) := by
  unfold memRead
  split
  case isTrue => rfl
  case isFalse haligned =>
    have haccess : s.access a n .load = false :=
      h.resolve_left fun ⟨hstrict, hmod⟩ => haligned (State.misaligned_eq_true hstrict hmod)
    rw [haccess, if_neg Bool.false_ne_true]
    rfl

/-! ### The instructions of the two groups -/

theorem exec_eq_storeCells_of_mem {p : Instr × Nat}
    (hp : p ∈ [(Instr.st8, 1), (Instr.st16, 2), (Instr.st32, 4), (Instr.st64, 8)]) :
    exec p.1 = storeCells p.2 ∧ p.2 ≤ 8 := by
  simp only [List.mem_cons, List.not_mem_nil, or_false] at hp
  rcases hp with rfl | rfl | rfl | rfl <;> exact ⟨rfl, by decide⟩

theorem exec_eq_loadCell_of_mem {p : Instr × Nat × Bool}
    (hp : p ∈ [(Instr.uld8, 1, false), (Instr.sld8, 1, true), (Instr.uld16, 2, false), (Instr.sld16, 2, true),
      (Instr.uld32, 4, false), (Instr.sld32, 4, true), (Instr.uld64, 8, false), (Instr.sld64, 8, true)]) :
    exec p.1 = loadCell p.2.2 p.2.1 ∧ 0 < p.2.1 := by
  simp only [List.mem_cons, List.not_mem_nil, or_false] at hp
  rcases hp with rfl | rfl | rfl | rfl | rfl | rfl | rfl | rfl <;> exact ⟨rfl, by decide⟩

section Cells

variable {top second : Cell} {rest : List Cell} {n : Nat}

theorem storeCells_eq_memWrite (hD : s.D = top :: second :: rest) :
    storeCells n s =
      memWrite s (s.storeOperands top second).1 n (s.storeOperands top second).2.toNat
        fun m => finish 1 (m.withD rest) := by
  simp only [storeCells, hD]

theorem loadCell_eq_memRead {a : Cell} {signed : Bool} (hD : s.D = a :: rest) :
    loadCell signed n s =
      memRead s a n fun v => finish 1 (s.withD (extendLoaded signed n v :: rest)) := by
  simp only [loadCell, hD]

theorem storeCells_of_permitted (hD : s.D = top :: second :: rest)
    (halign : s.config.alignStrict = true → (s.storeOperands top second).1.toNat % n = 0)
    (haccess : s.access (s.storeOperands top second).1 n .store = true) :
    storeCells n s =
      .next ((s.store (s.storeOperands top second).1 n (s.storeOperands top second).2.toNat).after 1 rest s.Rs) := by
  rw [storeCells_eq_memWrite hD, memWrite_of_permitted halign haccess, finish_eq]
  rfl

theorem storeCells_of_refused (hD : s.D = top :: second :: rest)
    (h : s.config.alignStrict = true ∧ (s.storeOperands top second).1.toNat % n ≠ 0 ∨
      s.access (s.storeOperands top second).1 n .store = false) :
    storeCells n s = .next (s.trapped (.memFault (s.storeOperands top second).1 n .store)) := by
  rw [storeCells_eq_memWrite hD, memWrite_of_refused h]

theorem loadCell_of_permitted {a : Cell} (signed : Bool) (hD : s.D = a :: rest)
    (halign : s.config.alignStrict = true → a.toNat % n = 0) (haccess : s.access a n .load = true) :
    loadCell signed n s = .next (s.after 1 (extendLoaded signed n (s.mem.read a n) :: rest) s.Rs) := by
  rw [loadCell_eq_memRead hD, memRead_of_permitted halign haccess, finish_eq]
  rfl

theorem loadCell_of_refused {a : Cell} (signed : Bool) (hD : s.D = a :: rest)
    (h : s.config.alignStrict = true ∧ a.toNat % n ≠ 0 ∨ s.access a n .load = false) :
    loadCell signed n s = .next (s.trapped (.memFault a n .load)) := by
  rw [loadCell_eq_memRead hD, memRead_of_refused h]

end Cells

/-! ### The bytes a store writes -/

theorem Memory.get_write_same {m : Memory} {a x : Cell} {n i : Nat} (hm : m.wf = true) (hn : n ≤ 2 ^ 64) (hi : i < n) :
    (m.write a n x.toNat).get (byteAddr a i) = x.extractLsb' (8 * i) 8 := by
  have hlen : i < (leBytes n x.toNat).length := by rwa [length_leBytes]
  rw [Memory.write, Memory.get_writeBytes_same hm (by rwa [length_leBytes]) hlen, getElem_leBytes, BitVec.extractLsb',
    Nat.shiftRight_eq_div_pow, pow_mul]
  rfl

theorem Memory.get_write_other {m : Memory} {a : Cell} {n v b : Nat} (h : ∀ i < n, b ≠ byteAddr a i) :
    (m.write a n v).get b = m.get b :=
  Memory.get_writeBytes_other fun i hi => h i (by rwa [length_leBytes] at hi)

/-- Settles O56: the memory left is that of one write at the address STORE_ORDER selects. -/
theorem storesWriteLowBytes : Obligations.StoresWriteLowBytes := by
  intro s top second rest hwf hD
  refine ⟨fun horder => by rw [State.storeOperands, horder], fun horder => by rw [State.storeOperands, horder], ?_⟩
  intro p hp a x hoperands halign haccess
  obtain ⟨hexec, hwidth⟩ := exec_eq_storeCells_of_mem hp
  refine ⟨s.mem.write a p.2 x.toNat, ?state, fun i hi => Memory.get_write_same hwf (by omega) hi,
    fun b hb => Memory.get_write_other hb⟩
  case state =>
    rw [hexec, storeCells_of_permitted hD (by rwa [hoperands]) (by rwa [hoperands]), hoperands]
    rfl

/-! ### The bits a load pushes -/

/-- Bit `j` of a number read little-endian is bit `j % 8` of its byte `j / 8`. -/
theorem testBit_leNat (bs : List Byte) (j : Nat) :
    (leNat bs).testBit j = (bs[j / 8]?.getD 0).getLsbD (j % 8) := by
  induction bs generalizing j with
  | nil => simp [leNat]
  | cons b bs ih =>
    have hsplit : leNat (b :: bs) = 2 ^ 8 * leNat bs + b.toNat := by rw [leNat]; omega
    rw [hsplit, Nat.testBit_two_pow_mul_add _ b.isLt]
    split
    case isTrue hlow =>
      have hbyte : j / 8 = 0 := by omega
      have hbit : j % 8 = j := by omega
      rw [hbyte, hbit]
      rfl
    case isFalse hhigh =>
      have hbyte : j / 8 = (j - 8) / 8 + 1 := by omega
      have hbit : j % 8 = (j - 8) % 8 := by omega
      rw [ih, hbyte, hbit, List.getElem?_cons_succ]

theorem Memory.testBit_read (m : Memory) (a : Cell) {n j : Nat} (hj : j < 8 * n) :
    (m.read a n).testBit j = (m.get (byteAddr a (j / 8))).getLsbD (j % 8) := by
  have hbyte : j / 8 < n := by omega
  rw [Memory.read, testBit_leNat, Memory.getElem?_readBytes, if_pos hbyte, Option.getD_some]

/-- The bits of an extended value: its own, then zeros or copies of its topmost bit (R335). -/
theorem getLsbD_extendLoaded (signed : Bool) {n v j : Nat} (hn : 0 < n) (hj : j < 64) :
    (extendLoaded signed n v).getLsbD j = if j < 8 * n then v.testBit j else signed && v.testBit (8 * n - 1) := by
  have htop : 8 * n - 1 < 8 * n := by omega
  cases signed with
  | false =>
    have hbit : (extendLoaded false n v).getLsbD j = (decide (j < 64) && (BitVec.ofNat (8 * n) v).getLsbD j) :=
      BitVec.getLsbD_setWidth ..
    rw [hbit, BitVec.getLsbD_ofNat]
    split <;> simp [*]
  | true =>
    have hbit : (extendLoaded true n v).getLsbD j = (decide (j < 64) &&
        if j < 8 * n then (BitVec.ofNat (8 * n) v).getLsbD j else (BitVec.ofNat (8 * n) v).msb) :=
      BitVec.getLsbD_signExtend ..
    rw [hbit, BitVec.msb_eq_getLsbD_last, BitVec.getLsbD_ofNat, BitVec.getLsbD_ofNat]
    split <;> simp [*]

/-- Settles O57: the cell pushed is the extended value of the bytes, whose bits are those of memory. -/
theorem loadsExtendTheirBytes : Obligations.LoadsExtendTheirBytes := by
  intro s a rest hD p hp halign haccess
  obtain ⟨hexec, hpos⟩ := exec_eq_loadCell_of_mem hp
  refine ⟨extendLoaded p.2.2 p.2.1 (s.mem.read a p.2.1), ?state, ?bits⟩
  case state => rw [hexec, loadCell_of_permitted _ hD halign haccess]
  case bits =>
    intro j hj
    have hbyte : (8 * p.2.1 - 1) / 8 = p.2.1 - 1 := by omega
    have hbit : (8 * p.2.1 - 1) % 8 = 7 := by omega
    rw [getLsbD_extendLoaded _ hpos hj]
    split
    case isTrue hlow => rw [Memory.testBit_read _ _ hlow]
    case isFalse => rw [Memory.testBit_read _ _ (by omega), hbyte, hbit]

/-- Settles O58: the cells are present, so the access is reached, and it traps on either ground. -/
theorem dataAccessFaults : Obligations.DataAccessFaults := by
  refine ⟨?stores, ?loads⟩
  case stores =>
    intro s top second rest hD p hp h
    obtain ⟨hexec, -⟩ := exec_eq_storeCells_of_mem hp
    rw [hexec, storeCells_of_refused hD h]
  case loads =>
    intro s a rest hD p hp h
    have hload : ∃ signed, exec p.1 = loadCell signed p.2 := by
      simp only [List.mem_cons, List.not_mem_nil, or_false] at hp
      rcases hp with rfl | rfl | rfl | rfl | rfl | rfl | rfl | rfl <;> exact ⟨_, rfl⟩
    obtain ⟨signed, hexec⟩ := hload
    rw [hexec, loadCell_of_refused signed hD h]

end Sys2Proof.Machine
end

section
/-! PROOF. The step (10_state.md R41, 60_exceptions.md R361): each fetch, what a step does once the opcode byte is read,
and the answer to a trap. The state a run begins in (10_state.md R40). -/

namespace Sys2Proof.Machine

variable {s : State}

/-! ### One fetch -/

theorem fetch_of_access {a : Cell} {n : Nat} {k : Nat → Result} (haccess : s.access a n .fetch = true)
    (hcoherent : s.fetchRefused a n = false) : fetch s a n k = k (s.mem.read a n) := by
  rw [fetch, if_pos haccess, hcoherent, if_neg Bool.false_ne_true]

theorem fetch_of_no_access {a : Cell} {n : Nat} {k : Nat → Result} (haccess : s.access a n .fetch = false) :
    fetch s a n k = .next (s.trapped (.memFault a n .fetch)) := by
  rw [fetch, haccess, if_neg Bool.false_ne_true]
  rfl

theorem fetch_of_refused {a : Cell} {n : Nat} {k : Nat → Result} (haccess : s.access a n .fetch = true)
    (hrefused : s.fetchRefused a n = true) : fetch s a n k = .fault .fetchOfWrittenByte := by
  rw [fetch, if_pos haccess, if_pos hrefused]

theorem State.fetchRefused_of_coherent (a : Cell) (n : Nat) (h : s.config.fetchCoherent = true) :
    s.fetchRefused a n = false := by
  simp [State.fetchRefused, h]

/-- A run of bytes is refused where its first byte is, or the rest. -/
theorem State.fetchRefused_add (s : State) (a : Cell) (n : Nat) :
    s.fetchRefused a (1 + n) = (s.fetchRefused a 1 || s.fetchRefused (a + 1) n) := by
  have hrest : (fun i => s.stored.contains (byteAddr (a + 1) i)) =
      (fun i => s.stored.contains (byteAddr a i)) ∘ Nat.succ :=
    funext fun i => congrArg _ (byteAddr_succ a i)
  have hone : List.range 1 = [0] := rfl
  rw [State.fetchRefused, State.fetchRefused, State.fetchRefused, hrest, Nat.add_comm 1 n, List.range_succ_eq_map,
    hone, List.any_cons, List.any_map, List.any_cons, List.any_nil, Bool.or_false, Bool.and_or_distrib_left]

/-! ### What is read where an instruction is fetched -/

theorem Memory.ofNat_read_one (m : Memory) (a : Cell) : BitVec.ofNat 8 (m.read a 1) = m.get a.toNat := by
  simp [Memory.read, Memory.readBytes, leNat]

theorem Memory.take_readBytes (m : Memory) (a : Cell) {k n : Nat} (h : k ≤ n) :
    (m.readBytes a n).take k = m.readBytes a k := by
  apply List.ext_getElem?
  intro i
  rw [List.getElem?_take, Memory.getElem?_readBytes, Memory.getElem?_readBytes]
  split
  case isTrue hi => rw [if_pos (by omega)]
  case isFalse => rfl

/-- The nine bytes at an address decode to the instruction of the byte there and the immediate after it. -/
theorem decode_readBytes {m : Memory} {a : Cell} {i : Instr} {rest : List Byte}
    (h : decode (m.readBytes a 9) = .ok (i, rest)) :
    i = decodeParts (m.get a.toNat) (m.read (a + 1) (immBytes (m.get a.toNat))) := by
  obtain ⟨op, imm, hlen, hbytes, rfl⟩ := decode_eq_ok_iff.mp h
  obtain ⟨rfl, htail⟩ : m.get a.toNat = op ∧ m.readBytes (a + 1) 8 = imm ++ rest := by
    simpa [Memory.readBytes] using hbytes
  have hle : immBytes (m.get a.toNat) ≤ 8 := by
    have hlen8 := congrArg List.length htail
    rw [Memory.length_readBytes, List.length_append] at hlen8
    omega
  have himm : m.readBytes (a + 1) (immBytes (m.get a.toNat)) = imm := by
    rw [← Memory.take_readBytes m (a + 1) hle, htail, ← hlen, List.take_left]
  rw [Memory.read, himm]

/-! ### A step, once the opcode byte is read -/

theorem step_of_no_trap (h : s.trap = none) : step s = fetchInstr s fun i => exec i s := by
  rw [step, h]

/-- An opcode without an immediate is executed. -/
theorem step_of_no_immediate (htrap : s.trap = none) (haccess : s.access s.pc 1 .fetch = true)
    (hcoherent : s.fetchRefused s.pc 1 = false) (himm : immBytes (s.mem.get s.pc.toNat) = 0) :
    step s = exec (decodeParts (s.mem.get s.pc.toNat) 0) s := by
  rw [step_of_no_trap htrap, fetchInstr, fetch_of_access haccess hcoherent, Memory.ofNat_read_one]
  exact if_pos himm

/-- Of an opcode with an immediate, the immediate is fetched. -/
theorem step_of_immediate (htrap : s.trap = none) (haccess : s.access s.pc 1 .fetch = true)
    (hcoherent : s.fetchRefused s.pc 1 = false) (himm : immBytes (s.mem.get s.pc.toNat) ≠ 0) :
    step s = fetch s (s.pc + 1) (immBytes (s.mem.get s.pc.toNat)) fun imm =>
      exec (decodeParts (s.mem.get s.pc.toNat) imm) s := by
  rw [step_of_no_trap htrap, fetchInstr, fetch_of_access haccess hcoherent, Memory.ofNat_read_one]
  exact if_neg himm

/-- Settles O7: the immediate fetched is that of the decoder, and neither of the two fetches stops the step. -/
theorem stepRunsDecoded : Obligations.StepRunsDecoded := by
  intro s i rest htrap hdecode haccess haccessImm hrefused
  have hi := decode_readBytes hdecode
  have hop : i.opcode = s.mem.get s.pc.toNat := by rw [hi, opcode_decodeParts]
  have hlen : i.immediate.length = immBytes (s.mem.get s.pc.toNat) := by rw [length_immediate, hop]
  rw [length_encode, hop, State.fetchRefused_add, Bool.or_eq_false_iff] at hrefused
  obtain ⟨hrefusedOp, hrefusedImm⟩ := hrefused
  by_cases himm : immBytes (s.mem.get s.pc.toNat) = 0
  case pos =>
    have hnone : s.mem.read (s.pc + 1) 0 = 0 := rfl
    rw [step_of_no_immediate htrap haccess hrefusedOp himm, hi, himm, hnone]
  case neg =>
    have haccessImm' : s.access (s.pc + 1) (immBytes (s.mem.get s.pc.toNat)) .fetch = true := by
      rw [← hlen]
      exact haccessImm fun hnil => himm (by rw [← hlen, hnil, List.length_nil])
    rw [step_of_immediate htrap haccess hrefusedOp himm, fetch_of_access haccessImm' hrefusedImm, ← hi]

/-- An opcode that is no instruction has no immediate (R96, R97). -/
theorem immBytes_of_not_wellFormed (op : Byte) (h : (decodeParts op 0).wellFormed = false) : immBytes op = 0 := by
  revert op
  decide

/-- Settles O8: an undefined opcode has no immediate to fetch, so its trap comes before that fetch. -/
theorem fetchChecksInOrder : Obligations.FetchChecksInOrder := by
  intro s htrap hcoherent
  have hfetch := State.fetchRefused_of_coherent s.pc 1 hcoherent
  refine ⟨fun haccess => ?opcode, fun haccess hill => ?undefined, fun haccess _ himm haccessImm => ?immediate⟩
  case opcode => rw [step_of_no_trap htrap, fetchInstr, fetch_of_no_access haccess]
  case undefined =>
    rw [step_of_no_immediate htrap haccess hfetch (immBytes_of_not_wellFormed _ hill), exec_of_not_wellFormed s hill,
      opcode_decodeParts]
    rfl
  case immediate => rw [step_of_immediate htrap haccess hfetch (by omega), fetch_of_no_access haccessImm]

/-! ### A store over the next opcode -/

/-- `Access` asks the parameters and the platform's state only (R51). -/
theorem State.access_congr {t : State} (hconfig : t.config = s.config) (hplatform : t.platform = s.platform) (a : Cell)
    (n : Nat) (kind : AccessKind) : t.access a n kind = s.access a n kind := by
  rw [State.access, State.access, hconfig, hplatform]

/-- The byte of an ST8 is refused to a fetch where fetches do not see stores. -/
theorem State.fetchRefused_store_one {a : Cell} {v : Nat} (h : s.config.fetchCoherent = false) :
    (s.store a 1 v).fetchRefused a 1 = true := by
  have hmem : byteAddr a 0 ∈ insertAddrs a 1 s.stored := mem_insertAddrs.mpr (.inl ⟨0, Nat.one_pos, rfl⟩)
  have hone : List.range 1 = [0] := rfl
  simp [State.fetchRefused, h, hone, hmem]

/-- Settles O9: the byte at the next `pc` is the one stored, and its address is recorded without FETCH_COHERENT. -/
theorem storeThenFetch : Obligations.StoreThenFetch := by
  intro s top second rest hwf htrap hD haddr hstore hfetch himm
  generalize hdatum : (s.storeOperands top second).2 = x at himm ⊢
  have hexec : exec .st8 s = .next ((s.store (s.pc + 1) 1 x.toNat).after 1 rest s.Rs) := by
    have h := storeCells_of_permitted (n := 1) hD (fun _ => Nat.mod_one _) (by rwa [haddr])
    rwa [haddr, hdatum] at h
  obtain ⟨t, ht⟩ : ∃ t, t = (s.store (s.pc + 1) 1 x.toNat).after 1 rest s.Rs := ⟨_, rfl⟩
  have hpc : t.pc = s.pc + 1 := by rw [ht]; rfl
  have httrap : t.trap = none := by rw [ht]; exact htrap
  have haccess : t.access t.pc 1 .fetch = true := by
    rw [hpc, State.access_congr (s := s) (by rw [ht]; rfl) (by rw [ht]; rfl), hfetch]
  refine ⟨t, by rw [hexec, ht], hpc, fun hcoherent => ?coherent, fun hstale => ?stale⟩
  case coherent =>
    have hbyte : t.mem.get t.pc.toNat = x.setWidth 8 := by
      have h := Memory.get_write_same (a := s.pc + 1) (x := x) hwf (by norm_num) Nat.one_pos
      rw [byteAddr_zero, Nat.mul_zero, ← BitVec.setWidth_eq_extractLsb' (by norm_num)] at h
      rw [hpc, ht]
      exact h
    have hrefused : t.fetchRefused t.pc 1 = false :=
      State.fetchRefused_of_coherent _ _ (by rw [ht]; exact hcoherent)
    rw [step_of_no_immediate httrap haccess hrefused (by rwa [hbyte]), hbyte]
  case stale =>
    have hrefused : t.fetchRefused t.pc 1 = true := by
      rw [hpc, ht]
      exact State.fetchRefused_store_one (s := s) (v := x.toNat) hstale
    rw [step_of_no_trap httrap, fetchInstr, fetch_of_refused haccess hrefused]

/-! ### The environment's answers -/

/-- Settles O10: with a trap pending a step is `answerTrap`, whose first choice is TrapEnv. -/
theorem trapHandedToEnvironment : Obligations.TrapHandedToEnvironment := by
  intro s tr htrap
  have hstep : step s = answerTrap tr s := by rw [step, htrap]
  refine ⟨fun hhalt => by rw [hstep, answerTrap, hhalt], fun hplatform => ?_⟩
  rw [hstep, answerTrap, hplatform]
  rfl

/-- Settles O11: a canonical memory is its own normal form, and a stack that fits is not cut. -/
theorem adoptKeepsMachineStates : Obligations.AdoptKeepsMachineStates := by
  intro s u room hinv htrap hconfig hstored hroom
  obtain ⟨hmem, -, hRs, -⟩ := State.inv_iff.mp hinv
  have hRs' : ∀ d, s.config.rsDepth = some d → u.Rs.length ≤ d - 0 := by
    intro d hd
    simpa [hconfig, hd, fits] using hRs
  apply State.eq_of_fields
  case hD => exact fitStack_of_fits hroom
  case hRs => exact fitStack_of_fits hRs'
  case hmem => exact Memory.normalise_of_wf hmem
  case htrap => exact htrap.symm
  case hstored => exact hstored.symm
  case hconfig => exact hconfig.symm
  all_goals rfl

/-! ### Reset -/

/-- Settles O12: a launch sets each of these fields from the parameters or the image, or empties it. -/
theorem launchState : Obligations.LaunchState := fun _ _ _ _ _ => ⟨rfl, rfl, rfl, rfl, rfl, rfl, rfl, rfl⟩

/-- Settles O13: the reset state is the launch with `C` and `IE` clear and 0 for the platform's state. -/
theorem resetUsesTheDefaults : Obligations.ResetUsesTheDefaults :=
  ⟨⟨false, false, 0, rfl⟩, rfl, rfl, rfl, rfl, rfl, rfl, rfl, rfl, rfl, rfl, rfl, rfl, rfl⟩

theorem fits_nil (depth : Option Nat) : fits depth [] = true := by
  cases depth with
  | none => rfl
  | some d => exact decide_eq_true (Nat.zero_le d)

theorem State.inv_launch (config : Config) {image : Memory} (c ie : Bool) (platform : Nat) (h : image.wf = true) :
    (State.launch config image c ie platform).inv = true :=
  State.inv_iff.mpr ⟨h, fits_nil _, fits_nil _, rfl⟩

/-- Settles O14: a launch has empty stacks, no stored address, and the image for its memory. -/
theorem invAtReset : Obligations.InvAtReset :=
  ⟨State.inv_launch _ _ _ _ rfl, fun config _ c ie platform h => State.inv_launch config c ie platform h⟩

end Sys2Proof.Machine
end

section
/-! PROOF. Group 0, the rest (40_group0.md): SC, CALLDI and SWITCH, DI and EI, and the two instructions that ask the
environment. -/

namespace Sys2Proof.Machine

variable {s : State}

/-! ### SC, CALLDI and SWITCH -/

/-- Settles O32: SC is `trapIfCond` with the trap SYSCALL at its own address. -/
theorem scTraps : Obligations.ScTraps := fun s => trapIfCond_eq (.syscall s.pc) s

/-- The condition is FALSE only where a COND left it so (R31). -/
theorem State.cond_of_condp_false (h : s.condp = some false) : s.cond = false := by
  rw [State.cond, h]

theorem State.cond_of_condp_ne_false (h : s.condp ≠ some false) : s.cond = true := by
  have hchoice := State.ite_cond s true false
  rw [if_neg h] at hchoice
  simpa using hchoice

section Calls

variable {a : Cell} {rest : List Cell}

theorem execCalldi_of_not_taken (h : s.condp = some false) :
    execCalldi s = .next (s.transferred (s.pc + 1) s.D s.Rs) := by
  rw [execCalldi, State.cond_of_condp_false h, State.advance_takeLatches_transfer]
  rfl

theorem execSwitch_of_not_taken (h : s.condp = some false) :
    execSwitch s = .next (s.transferred (s.pc + 1) s.D s.Rs) := by
  rw [execSwitch, State.cond_of_condp_false h, State.advance_takeLatches_transfer]
  rfl

/-- A taken CALLDI pops its address, then pushes (R125). -/
theorem execCalldi_of_taken (h : s.condp ≠ some false) :
    execCalldi s =
      popD s fun a t => pushR (s.pc + 1) t fun u => .next ((u.takeLatches .transfer).withPc a) := by
  rw [execCalldi, if_pos (State.cond_of_condp_ne_false h)]

theorem execCalldi_of_hasRoom (h : s.condp ≠ some false) (hD : s.D = a :: rest)
    (hroom : hasRoom s.config.rsDepth s.Rs = true) :
    execCalldi s = .next (s.transferred a rest ((s.pc + 1) :: s.Rs)) := by
  rw [execCalldi_of_taken h, popD_of_cons hD, pushR_of_hasRoom (s := s.withD rest) hroom,
    State.withPc_takeLatches_transfer]
  rfl

theorem execCalldi_of_full (h : s.condp ≠ some false) (hD : s.D ≠ [])
    (hfull : hasRoom s.config.rsDepth s.Rs = false) : execCalldi s = .fault .rstackOverflow := by
  obtain ⟨a, rest, hcons⟩ := List.exists_cons_of_ne_nil hD
  rw [execCalldi_of_taken h, popD_of_cons hcons, pushR_of_full (s := s.withD rest) hfull]

theorem execCalldi_of_nil (h : s.condp ≠ some false) (hD : s.D = []) : execCalldi s = .fault .dstackUnderflow := by
  rw [execCalldi_of_taken h, popD_of_nil hD]

theorem execSwitch_of_cons (h : s.condp ≠ some false) (hRs : s.Rs = a :: rest) :
    execSwitch s = .next (s.transferred a s.D ((s.pc + 1) :: rest)) := by
  rw [execSwitch, if_pos (State.cond_of_condp_ne_false h), popR_of_cons hRs, State.withPc_takeLatches_transfer]
  rfl

theorem execSwitch_of_nil (h : s.condp ≠ some false) (hRs : s.Rs = []) : execSwitch s = .fault .rstackUnderflow := by
  rw [execSwitch, if_pos (State.cond_of_condp_ne_false h), popR_of_nil hRs]

end Calls

/-- Settles O35: not taken, both only pass their byte; taken, the outcome is that of the pop and then of the push. -/
theorem calldiAndSwitch : Obligations.CalldiAndSwitch := by
  refine ⟨?notTaken, ?calldi, ?switch, ?faults⟩
  case notTaken => exact fun s h => ⟨execCalldi_of_not_taken h, execSwitch_of_not_taken h⟩
  case calldi => exact fun s a rest h hD hroom => execCalldi_of_hasRoom h hD hroom
  case switch => exact fun s a rest h hRs => execSwitch_of_cons h hRs
  case faults => exact fun s h => ⟨execCalldi_of_nil h, execCalldi_of_full h, execSwitch_of_nil h⟩

/-! ### DI and EI -/

theorem writeIE_of_not_emulated (b : Bool) (h : s.config.emulateDiei = false) :
    writeIE b s = .next { s.after 1 s.D s.Rs with IE := b } := by
  rw [writeIE, if_neg (by simp [h]), finish_eq]
  rfl

theorem writeIE_of_emulated (b : Bool) (h : s.config.emulateDiei = true) :
    writeIE b s = .next (s.trapped (.emulation s.pc)) :=
  if_pos h

/-- Settles O36: DI and EI differ in the value written. -/
theorem diAndEi : Obligations.DiAndEi := fun _ =>
  ⟨fun h => ⟨writeIE_of_not_emulated false h, writeIE_of_not_emulated true h⟩,
    fun h => ⟨writeIE_of_emulated false h, writeIE_of_emulated true h⟩⟩

/-! ### CR! and CR@ -/

/-- The state asked in is the one with the operands popped and the latches taken. -/
theorem State.takeLatches_withD (s : State) (rest : List Cell) : (s.withD rest).takeLatches .plain = s.asked rest := by
  apply State.eq_of_fields <;> simp [State.asked, State.takeLatches_condp, State.takeLatches_secp]

section Registers

variable {num val : Cell} {rest : List Cell}

theorem execCrStore_of_cons (hD : s.D = num :: val :: rest) :
    execCrStore s =
      if s.config.emulateCr || crWriteRefuses num val (s.asked rest) then .next (s.trapped (.emulation s.pc))
      else .next { s.adopt 0 (Config.crWrite num val (s.asked rest)) with
        pc := (Config.crWrite num val (s.asked rest)).pc + 1 } := by
  rw [execCrStore, popD_of_cons hD, popD_of_cons (s := s.withD (val :: rest)) rfl]
  have hasked : ((s.withD (val :: rest)).withD rest).takeLatches .plain = s.asked rest :=
    State.takeLatches_withD s rest
  simp only [hasked]
  rfl

theorem execCrFetch_of_cons (hD : s.D = num :: rest) :
    execCrFetch s =
      if s.config.emulateCr || crReadRefuses num (s.asked rest) then .next (s.trapped (.emulation s.pc))
      else .next { s.adopt 1 (Config.crRead num (s.asked rest)).2 with
        D := (Config.crRead num (s.asked rest)).1 :: (s.adopt 1 (Config.crRead num (s.asked rest)).2).D
        pc := (Config.crRead num (s.asked rest)).2.pc + 1 } := by
  rw [execCrFetch, popD_of_cons hD]
  simp only [State.takeLatches_withD]
  rfl

theorem crWriteRefuses_asked_of_never (h : s.config.crTraps = .never) :
    crWriteRefuses num val (s.asked rest) = false := by
  have hasked : (s.asked rest).config.crTraps = .never := h
  rw [crWriteRefuses, hasked]

theorem crWriteRefuses_asked_of_platform (h : s.config.crTraps = .platform) :
    crWriteRefuses num val (s.asked rest) = Config.crWriteTraps num val (s.asked rest) := by
  have hasked : (s.asked rest).config.crTraps = .platform := h
  rw [crWriteRefuses, hasked]

theorem crReadRefuses_asked_of_never (h : s.config.crTraps = .never) : crReadRefuses num (s.asked rest) = false := by
  have hasked : (s.asked rest).config.crTraps = .never := h
  rw [crReadRefuses, hasked]

theorem crReadRefuses_asked_of_platform (h : s.config.crTraps = .platform) :
    crReadRefuses num (s.asked rest) = Config.crReadTraps num (s.asked rest) := by
  have hasked : (s.asked rest).config.crTraps = .platform := h
  rw [crReadRefuses, hasked]

end Registers

/-- Settles O38: the three settings select the two branches of CR!. -/
theorem crStoreAsksCrWrite : Obligations.CrStoreAsksCrWrite := by
  intro s num val rest hD
  have hexec : exec .crStore s = _ := execCrStore_of_cons hD
  refine ⟨fun hemulate hnever => ?never, fun hemulate hplatform => ?platform, fun hemulate => ?emulated⟩
  case never => rw [hexec, hemulate, crWriteRefuses_asked_of_never hnever]; rfl
  case platform =>
    rw [hexec, hemulate, crWriteRefuses_asked_of_platform hplatform, Bool.false_or]
    split <;> rfl
  case emulated => rw [hexec, hemulate]; rfl

/-- Settles O39: the three settings select the two branches of CR@. -/
theorem crFetchAsksCrRead : Obligations.CrFetchAsksCrRead := by
  intro s num rest hD
  have hexec : exec .crFetch s = _ := execCrFetch_of_cons hD
  refine ⟨fun hemulate hnever => ?never, fun hemulate hplatform => ?platform, fun hemulate => ?emulated⟩
  case never => rw [hexec, hemulate, crReadRefuses_asked_of_never hnever]; rfl
  case platform =>
    rw [hexec, hemulate, crReadRefuses_asked_of_platform hplatform, Bool.false_or]
    split <;> rfl
  case emulated => rw [hexec, hemulate]; rfl

end Sys2Proof.Machine
end

section
/-! PROOF. The data path: BOOL2 (42_bool2.md), BOOL1 (43_bool1.md), ADDSUB2 (44_addsub2.md) and COND (45_cond.md). One
equation for each form with its inputs present, and one for each function the forms compute. -/

namespace Sys2Proof.Machine

variable {s : State}

/-! ### The operand forms, with their inputs present -/

section Forms

variable {x1 x2 : Cell} {rest : List Cell}

theorem binary_kept_eq_pushD {f : Cell → Cell → Bool → Cell × Bool} (hD : s.D = x2 :: x1 :: rest) :
    binary .kept f s = pushD (f x1 x2 s.C).1 s fun t => finish 1 (t.withC (f x1 x2 s.C).2) := by
  simp only [binary, hD]

theorem binary_popped_eq_finish {f : Cell → Cell → Bool → Cell × Bool} (hD : s.D = x2 :: x1 :: rest) :
    binary .popped f s = finish 1 ((s.withD ((f x1 x2 s.C).1 :: rest)).withC (f x1 x2 s.C).2) := by
  simp only [binary, hD]

theorem unary_kept_eq_pushD {f : Cell → Cell} (hD : s.D = x1 :: rest) :
    unary .kept f s = pushD (f x1) s fun t => finish 1 t := by
  simp only [unary, hD]

theorem unary_popped_eq_finish {f : Cell → Cell} (hD : s.D = x1 :: rest) :
    unary .popped f s = finish 1 (s.withD (f x1 :: rest)) := by
  simp only [unary, hD]

theorem binary_kept_of_hasRoom {f : Cell → Cell → Bool → Cell × Bool} (hD : s.D = x2 :: x1 :: rest)
    (hroom : hasRoom s.config.dsDepth s.D = true) :
    binary .kept f s = .next { s.after 1 ((f x1 x2 s.C).1 :: s.D) s.Rs with C := (f x1 x2 s.C).2 } := by
  rw [binary_kept_eq_pushD hD, pushD_of_hasRoom hroom, finish_eq]
  rfl

theorem binary_kept_of_full {f : Cell → Cell → Bool → Cell × Bool} (hD : s.D = x2 :: x1 :: rest)
    (hfull : hasRoom s.config.dsDepth s.D = false) : binary .kept f s = .fault .dstackOverflow := by
  rw [binary_kept_eq_pushD hD, pushD_of_full hfull]

theorem binary_popped_of_cons {f : Cell → Cell → Bool → Cell × Bool} (hD : s.D = x2 :: x1 :: rest) :
    binary .popped f s = .next { s.after 1 ((f x1 x2 s.C).1 :: rest) s.Rs with C := (f x1 x2 s.C).2 } := by
  rw [binary_popped_eq_finish hD, finish_eq]
  rfl

theorem unary_kept_of_hasRoom {f : Cell → Cell} (hD : s.D = x1 :: rest) (hroom : hasRoom s.config.dsDepth s.D = true) :
    unary .kept f s = .next (s.after 1 (f x1 :: s.D) s.Rs) := by
  rw [unary_kept_eq_pushD hD, pushD_of_hasRoom hroom, finish_eq]
  rfl

theorem unary_kept_of_full {f : Cell → Cell} (hD : s.D = x1 :: rest) (hfull : hasRoom s.config.dsDepth s.D = false) :
    unary .kept f s = .fault .dstackOverflow := by
  rw [unary_kept_eq_pushD hD, pushD_of_full hfull]

theorem unary_popped_of_cons {f : Cell → Cell} (hD : s.D = x1 :: rest) :
    unary .popped f s = .next (s.after 1 (f x1 :: rest) s.Rs) := by
  rw [unary_popped_eq_finish hD, finish_eq]
  rfl

end Forms

/-! ### BOOL2: the sixteen tables (R173 to R188) -/

section Tables

variable (x1 x2 : Cell)

@[simp] theorem getElem_spread (b : Bool) (i : Nat) (hi : i < 64) : (spread b)[i] = b := by
  cases b with
  | false => exact BitVec.getElem_zero hi
  | true => exact BitVec.getElem_allOnes i hi

/-- Bit `i` of a look-up is the entry of the table for the two bits `i` (R170). -/
theorem getElem_lut2 (a b c d : Bool) (i : Nat) (hi : i < 64) :
    (lut2 a b c d x1 x2)[i] = if x1[i] then (if x2[i] then d else c) else if x2[i] then b else a := by
  simp only [lut2, BitVec.getElem_or, BitVec.getElem_and, BitVec.getElem_not, getElem_spread]
  cases x1[i] <;> cases x2[i] <;> simp

theorem lut2_zero : lut2 false false false false x1 x2 = 0#64 := by
  ext i; simp [getElem_lut2]

theorem lut2_and : lut2 false false false true x1 x2 = x1 &&& x2 := by
  ext i; simp [getElem_lut2]

theorem lut2_bic : lut2 false false true false x1 x2 = x1 &&& ~~~x2 := by
  ext i; simp [getElem_lut2]

theorem lut2_second : lut2 false false true true x1 x2 = x1 := by
  ext i; simp [getElem_lut2]

theorem lut2_swapBic : lut2 false true false false x1 x2 = ~~~x1 &&& x2 := by
  ext i; simp [getElem_lut2]

theorem lut2_top : lut2 false true false true x1 x2 = x2 := by
  ext i; simp [getElem_lut2]

theorem lut2_xor : lut2 false true true false x1 x2 = x1 ^^^ x2 := by
  ext i; cases h : x1[i] <;> simp [getElem_lut2, h]

theorem lut2_or : lut2 false true true true x1 x2 = x1 ||| x2 := by
  ext i; simp [getElem_lut2]

theorem lut2_nor : lut2 true false false false x1 x2 = ~~~(x1 ||| x2) := by
  ext i; simp [getElem_lut2]

theorem lut2_xnor : lut2 true false false true x1 x2 = ~~~(x1 ^^^ x2) := by
  ext i; cases h : x1[i] <;> simp [getElem_lut2, h]

theorem lut2_invertTop : lut2 true false true false x1 x2 = ~~~x2 := by
  ext i; simp [getElem_lut2]

theorem lut2_invertOr : lut2 true false true true x1 x2 = x1 ||| ~~~x2 := by
  ext i; simp [getElem_lut2]

theorem lut2_invertSecond : lut2 true true false false x1 x2 = ~~~x1 := by
  ext i; simp [getElem_lut2]

theorem lut2_swapInvertOr : lut2 true true false true x1 x2 = ~~~x1 ||| x2 := by
  ext i; simp [getElem_lut2]

theorem lut2_nand : lut2 true true true false x1 x2 = ~~~(x1 &&& x2) := by
  ext i; simp [getElem_lut2]

theorem lut2_negOne : lut2 true true true true x1 x2 = 0xFFFFFFFFFFFFFFFF#64 := by
  have hones : 0xFFFFFFFFFFFFFFFF#64 = BitVec.allOnes 64 := rfl
  rw [hones]
  ext i hi
  rw [getElem_lut2, BitVec.getElem_allOnes, ite_self, ite_self]

end Tables

section Bool2

variable {x1 x2 v : Cell} {rest : List Cell} {a b c d : Bool}

theorem bool2_kept_of_hasRoom (hv : lut2 a b c d x1 x2 = v) (hD : s.D = x2 :: x1 :: rest)
    (hroom : hasRoom s.config.dsDepth s.D = true) : bool2 a b c d .kept s = .next (s.after 1 (v :: s.D) s.Rs) := by
  rw [bool2, binary_kept_of_hasRoom hD hroom, ← hv]
  rfl

theorem bool2_popped_of_cons (hv : lut2 a b c d x1 x2 = v) (hD : s.D = x2 :: x1 :: rest) :
    bool2 a b c d .popped s = .next (s.after 1 (v :: rest) s.Rs) := by
  rw [bool2, binary_popped_of_cons hD, ← hv]
  rfl

end Bool2

/-- Settles O41: each encoding is its table, over the inputs. -/
theorem bool2KeptResults : Obligations.Bool2KeptResults := by
  intro s x1 x2 rest hD hroom
  refine ⟨?zero, ?and, ?bic, ?second, ?swapBic, ?dup, ?xor, ?or, ?nor, ?xnor, ?dupInvert, ?invertOr, ?overInvert,
    ?swapInvertOr, ?nand, ?negOne⟩
  case zero => exact bool2_kept_of_hasRoom (lut2_zero x1 x2) hD hroom
  case and => exact bool2_kept_of_hasRoom (lut2_and x1 x2) hD hroom
  case bic => exact bool2_kept_of_hasRoom (lut2_bic x1 x2) hD hroom
  case second => exact bool2_kept_of_hasRoom (lut2_second x1 x2) hD hroom
  case swapBic => exact bool2_kept_of_hasRoom (lut2_swapBic x1 x2) hD hroom
  case dup => exact bool2_kept_of_hasRoom (lut2_top x1 x2) hD hroom
  case xor => exact bool2_kept_of_hasRoom (lut2_xor x1 x2) hD hroom
  case or => exact bool2_kept_of_hasRoom (lut2_or x1 x2) hD hroom
  case nor => exact bool2_kept_of_hasRoom (lut2_nor x1 x2) hD hroom
  case xnor => exact bool2_kept_of_hasRoom (lut2_xnor x1 x2) hD hroom
  case dupInvert => exact bool2_kept_of_hasRoom (lut2_invertTop x1 x2) hD hroom
  case invertOr => exact bool2_kept_of_hasRoom (lut2_invertOr x1 x2) hD hroom
  case overInvert => exact bool2_kept_of_hasRoom (lut2_invertSecond x1 x2) hD hroom
  case swapInvertOr => exact bool2_kept_of_hasRoom (lut2_swapInvertOr x1 x2) hD hroom
  case nand => exact bool2_kept_of_hasRoom (lut2_nand x1 x2) hD hroom
  case negOne => exact bool2_kept_of_hasRoom (lut2_negOne x1 x2) hD hroom

/-- Settles O42: each encoding is its table, in the place of the inputs. -/
theorem bool2PoppedResults : Obligations.Bool2PoppedResults := by
  intro s x1 x2 rest hD
  refine ⟨?zero, ?and, ?bic, ?drop, ?swapBic, ?nip, ?xor, ?or, ?nor, ?xnor, ?invertNip, ?invertOr, ?dropInvert,
    ?swapInvertOr, ?nand, ?negOne⟩
  case zero => exact bool2_popped_of_cons (lut2_zero x1 x2) hD
  case and => exact bool2_popped_of_cons (lut2_and x1 x2) hD
  case bic => exact bool2_popped_of_cons (lut2_bic x1 x2) hD
  case drop => exact bool2_popped_of_cons (lut2_second x1 x2) hD
  case swapBic => exact bool2_popped_of_cons (lut2_swapBic x1 x2) hD
  case nip => exact bool2_popped_of_cons (lut2_top x1 x2) hD
  case xor => exact bool2_popped_of_cons (lut2_xor x1 x2) hD
  case or => exact bool2_popped_of_cons (lut2_or x1 x2) hD
  case nor => exact bool2_popped_of_cons (lut2_nor x1 x2) hD
  case xnor => exact bool2_popped_of_cons (lut2_xnor x1 x2) hD
  case invertNip => exact bool2_popped_of_cons (lut2_invertTop x1 x2) hD
  case invertOr => exact bool2_popped_of_cons (lut2_invertOr x1 x2) hD
  case dropInvert => exact bool2_popped_of_cons (lut2_invertSecond x1 x2) hD
  case swapInvertOr => exact bool2_popped_of_cons (lut2_swapInvertOr x1 x2) hD
  case nand => exact bool2_popped_of_cons (lut2_nand x1 x2) hD
  case negOne => exact bool2_popped_of_cons (lut2_negOne x1 x2) hD

/-! ### BOOL1: the four tables (R212 to R219) -/

section Bool1

variable {x1 v : Cell} {rest : List Cell} {c d : Bool}

theorem lut1_zero (x1 : Cell) : lut1 false false x1 = 0#64 := by simp [lut1, spread]

theorem lut1_self (x1 : Cell) : lut1 false true x1 = x1 := by
  rw [lut1, spread, spread, if_neg Bool.false_ne_true, if_pos rfl, BitVec.zero_and, BitVec.zero_or,
    BitVec.allOnes_and]

theorem lut1_invert (x1 : Cell) : lut1 true false x1 = ~~~x1 := by
  rw [lut1, spread, spread, if_neg Bool.false_ne_true, if_pos rfl, BitVec.zero_and, BitVec.or_zero,
    BitVec.allOnes_and]

theorem lut1_negOne (x1 : Cell) : lut1 true true x1 = 0xFFFFFFFFFFFFFFFF#64 := by
  rw [lut1, spread, if_pos rfl, BitVec.allOnes_and, BitVec.allOnes_and, BitVec.or_comm, BitVec.or_not_self]
  rfl

theorem bool1_kept_of_hasRoom (hv : lut1 c d x1 = v) (hD : s.D = x1 :: rest)
    (hroom : hasRoom s.config.dsDepth s.D = true) : bool1 c d .kept s = .next (s.after 1 (v :: s.D) s.Rs) := by
  rw [bool1, unary_kept_of_hasRoom hD hroom, hv]

theorem bool1_popped_of_cons (hv : lut1 c d x1 = v) (hD : s.D = x1 :: rest) :
    bool1 c d .popped s = .next (s.after 1 (v :: rest) s.Rs) := by
  rw [bool1, unary_popped_of_cons hD, hv]

end Bool1

/-- Settles O43: each encoding is its table, over the input or in its place. -/
theorem bool1Results : Obligations.Bool1Results := by
  intro s x1 rest hD
  refine ⟨fun hroom => ⟨?zero, ?dup, ?dupInvert, ?negOne⟩, ?dropZero, ?nop, ?invert, ?dropNegOne⟩
  case zero => exact bool1_kept_of_hasRoom (lut1_zero x1) hD hroom
  case dup => exact bool1_kept_of_hasRoom (lut1_self x1) hD hroom
  case dupInvert => exact bool1_kept_of_hasRoom (lut1_invert x1) hD hroom
  case negOne => exact bool1_kept_of_hasRoom (lut1_negOne x1) hD hroom
  case dropZero => exact bool1_popped_of_cons (lut1_zero x1) hD
  case nop => exact bool1_popped_of_cons (lut1_self x1) hD
  case invert => exact bool1_popped_of_cons (lut1_invert x1) hD
  case dropNegOne => exact bool1_popped_of_cons (lut1_negOne x1) hD

/-! ### ADDSUB2: the sum and the difference (R225, R226) -/

section Adder

variable {x1 x2 : Cell} {rest : List Cell}

theorem addSub_eq_of_add (cc : CarryIn) (x1 x2 : Cell) (c : Bool) :
    addSub false cc x1 x2 c =
      (x1 + x2 + BitVec.ofNat 64 (cc.value c).toNat, decide (2 ^ 64 ≤ x1.toNat + x2.toNat + (cc.value c).toNat)) := by
  have hsum : sum65 false cc x1 x2 c = x1.toNat + x2.toNat + (cc.value c).toNat := rfl
  rw [addSub, hsum, BitVec.ofNat_add, BitVec.ofNat_add, BitVec.ofNat_toNat, BitVec.ofNat_toNat, BitVec.setWidth_eq,
    BitVec.setWidth_eq]

/-- Adding the complement subtracts one more than the operand, and carries where that borrows nothing (R227). -/
theorem addSub_eq_of_sub (cc : CarryIn) (x1 x2 : Cell) (c : Bool) :
    addSub true cc x1 x2 c =
      (x1 - x2 - 1 + BitVec.ofNat 64 (cc.value c).toNat,
        decide (x2.toNat + 1 ≤ x1.toNat + (cc.value c).toNat)) := by
  have hnot : (~~~x2).toNat = 2 ^ 64 - 1 - x2.toNat := BitVec.toNat_not
  have hlt := x2.isLt
  have hsum : sum65 true cc x1 x2 c = x1.toNat + (~~~x2).toNat + (cc.value c).toNat := rfl
  have hword : x1 + ~~~x2 = x1 - x2 - 1 := by
    rw [BitVec.not_eq_neg_add, BitVec.sub_eq_add_neg, BitVec.sub_eq_add_neg, BitVec.sub_eq_add_neg, BitVec.add_assoc]
    rfl
  have hcarry : 2 ^ 64 ≤ sum65 true cc x1 x2 c ↔ x2.toNat + 1 ≤ x1.toNat + (cc.value c).toNat := by omega
  rw [addSub, decide_eq_decide.mpr hcarry, hsum, BitVec.ofNat_add, BitVec.ofNat_add, BitVec.ofNat_toNat,
    BitVec.ofNat_toNat, BitVec.setWidth_eq, BitVec.setWidth_eq, hword]

theorem addSub2_kept_of_hasRoom {b : Bool} {cc : CarryIn} {v : Cell} {c : Bool}
    (hv : addSub b cc x1 x2 s.C = (v, c)) (hD : s.D = x2 :: x1 :: rest) (hroom : hasRoom s.config.dsDepth s.D = true) :
    addSub2 b cc .kept s = .next { s.after 1 (v :: s.D) s.Rs with C := c } := by
  rw [addSub2, binary_kept_of_hasRoom hD hroom, hv]

theorem addSub2_popped_of_cons {b : Bool} {cc : CarryIn} {v : Cell} {c : Bool}
    (hv : addSub b cc x1 x2 s.C = (v, c)) (hD : s.D = x2 :: x1 :: rest) :
    addSub2 b cc .popped s = .next { s.after 1 (v :: rest) s.Rs with C := c } := by
  rw [addSub2, binary_popped_of_cons hD, hv]

end Adder

/-! ### The adding encodings, by their carry in (R228 to R231, R236 to R239) -/

section Carries

variable (x1 x2 : Cell) (c : Bool)

theorem addSub_add : addSub false .clear x1 x2 c = (x1 + x2, decide (2 ^ 64 ≤ x1.toNat + x2.toNat)) := by
  rw [addSub_eq_of_add]
  simp [CarryIn.value]

theorem addSub_addPlus1 :
    addSub false .set x1 x2 c = (x1 + x2 + 1, decide (2 ^ 64 ≤ x1.toNat + x2.toNat + 1)) :=
  addSub_eq_of_add ..

theorem addSub_adc :
    addSub false .asIs x1 x2 c =
      (x1 + x2 + BitVec.ofNat 64 c.toNat, decide (2 ^ 64 ≤ x1.toNat + x2.toNat + c.toNat)) :=
  addSub_eq_of_add ..

theorem addSub_adcMinus1 :
    addSub false .inverted x1 x2 c =
      (x1 + x2 + BitVec.ofNat 64 (1 - c.toNat), decide (2 ^ 64 ≤ x1.toNat + x2.toNat + (1 - c.toNat))) := by
  rw [addSub_eq_of_add]
  cases c <;> rfl

/-! ### The subtracting encodings, by their carry in (R232 to R235, R240 to R243) -/

theorem addSub_subMinus1 : addSub true .clear x1 x2 c = (x1 - x2 - 1, decide (x2.toNat < x1.toNat)) := by
  rw [addSub_eq_of_sub]
  simp [CarryIn.value]

theorem addSub_sub : addSub true .set x1 x2 c = (x1 - x2, decide (x2.toNat ≤ x1.toNat)) := by
  rw [addSub_eq_of_sub]
  simp [CarryIn.value]

theorem addSub_sbc :
    addSub true .asIs x1 x2 c =
      (x1 - x2 - 1 + BitVec.ofNat 64 c.toNat, decide (x2.toNat + 1 ≤ x1.toNat + c.toNat)) :=
  addSub_eq_of_sub ..

/-- One less, and one more where the carry is clear, is one less where it is set. -/
theorem addSub_sbcMinus1 :
    addSub true .inverted x1 x2 c =
      (x1 - x2 - BitVec.ofNat 64 c.toNat, decide (x2.toNat + c.toNat ≤ x1.toNat)) := by
  rw [addSub_eq_of_sub]
  cases c <;> simp [CarryIn.value]

end Carries

/-- Settles O44: four carries in, over the inputs or in their place. -/
theorem addResults : Obligations.AddResults := by
  intro s x1 x2 rest hD
  refine ⟨fun hroom => ⟨?add, ?addPlus1, ?adc, ?adcMinus1⟩, ?add', ?addPlus1', ?adc', ?adcMinus1'⟩
  case add => exact addSub2_kept_of_hasRoom (addSub_add x1 x2 s.C) hD hroom
  case addPlus1 => exact addSub2_kept_of_hasRoom (addSub_addPlus1 x1 x2 s.C) hD hroom
  case adc => exact addSub2_kept_of_hasRoom (addSub_adc x1 x2 s.C) hD hroom
  case adcMinus1 => exact addSub2_kept_of_hasRoom (addSub_adcMinus1 x1 x2 s.C) hD hroom
  case add' => exact addSub2_popped_of_cons (addSub_add x1 x2 s.C) hD
  case addPlus1' => exact addSub2_popped_of_cons (addSub_addPlus1 x1 x2 s.C) hD
  case adc' => exact addSub2_popped_of_cons (addSub_adc x1 x2 s.C) hD
  case adcMinus1' => exact addSub2_popped_of_cons (addSub_adcMinus1 x1 x2 s.C) hD

/-- Settles O45: four carries in, over the inputs or in their place. -/
theorem subResults : Obligations.SubResults := by
  intro s x1 x2 rest hD
  refine ⟨fun hroom => ⟨?subMinus1, ?sub, ?sbc, ?sbcMinus1⟩, ?subMinus1', ?sub', ?sbc', ?sbcMinus1'⟩
  case subMinus1 => exact addSub2_kept_of_hasRoom (addSub_subMinus1 x1 x2 s.C) hD hroom
  case sub => exact addSub2_kept_of_hasRoom (addSub_sub x1 x2 s.C) hD hroom
  case sbc => exact addSub2_kept_of_hasRoom (addSub_sbc x1 x2 s.C) hD hroom
  case sbcMinus1 => exact addSub2_kept_of_hasRoom (addSub_sbcMinus1 x1 x2 s.C) hD hroom
  case subMinus1' => exact addSub2_popped_of_cons (addSub_subMinus1 x1 x2 s.C) hD
  case sub' => exact addSub2_popped_of_cons (addSub_sub x1 x2 s.C) hD
  case sbc' => exact addSub2_popped_of_cons (addSub_sbc x1 x2 s.C) hD
  case sbcMinus1' => exact addSub2_popped_of_cons (addSub_sbcMinus1 x1 x2 s.C) hD

/-! ### Two cells (R230, R234) -/

/-- The result and the carry are the low 64 bits and bit 64 of the sum. -/
theorem addSub_toNat (b : Bool) (cc : CarryIn) (x1 x2 : Cell) (c : Bool) :
    (addSub b cc x1 x2 c).1.toNat + 2 ^ 64 * (addSub b cc x1 x2 c).2.toNat = sum65 b cc x1 x2 c := by
  have hlt : sum65 b cc x1 x2 c < 2 * 2 ^ 64 := by
    have h1 := x1.isLt
    have h2 := (if b then ~~~x2 else x2).isLt
    have hc := Bool.toNat_le (cc.value c)
    rw [sum65]
    omega
  rw [addSub]
  by_cases hcarry : 2 ^ 64 ≤ sum65 b cc x1 x2 c
  · simp only [hcarry, decide_true, Bool.toNat_true, BitVec.toNat_ofNat]
    omega
  · simp only [hcarry, decide_false, Bool.toNat_false, BitVec.toNat_ofNat]
    omega

/-- Settles O46: the carry of the low sum is bit 64, and the high sum takes it in; subtracting adds the complement. -/
theorem twoCellArithmetic : Obligations.TwoCellArithmetic := by
  intro s u lowA lowB highA highB rest rest' hs hu
  refine ⟨?add, ?sub⟩
  case add =>
    have hlow := addSub_toNat false .clear lowA lowB s.C
    have hhigh := addSub_toNat false .asIs highA highB u.C
    have hlowSum : sum65 false .clear lowA lowB s.C = lowA.toNat + lowB.toNat := rfl
    have hhighSum : sum65 false .asIs highA highB u.C = highA.toNat + highB.toNat + u.C.toNat := rfl
    refine ⟨_, _, addSub2_popped_of_cons (Prod.eta _).symm hs, rfl, fun hC =>
      ⟨_, _, addSub2_popped_of_cons (Prod.eta _).symm hu, rfl, ?_⟩⟩
    have hC' : u.C.toNat = (addSub false .clear lowA lowB s.C).2.toNat := congrArg Bool.toNat hC
    dsimp only
    omega
  case sub =>
    have hlow := addSub_toNat true .set lowA lowB s.C
    have hhigh := addSub_toNat true .asIs highA highB u.C
    have hlowSum : sum65 true .set lowA lowB s.C = lowA.toNat + (~~~lowB).toNat + 1 := rfl
    have hhighSum : sum65 true .asIs highA highB u.C = highA.toNat + (~~~highB).toNat + u.C.toNat := rfl
    have hnotLow : (~~~lowB).toNat = 2 ^ 64 - 1 - lowB.toNat := BitVec.toNat_not
    have hnotHigh : (~~~highB).toNat = 2 ^ 64 - 1 - highB.toNat := BitVec.toNat_not
    have hltLow := lowB.isLt
    have hltHigh := highB.isLt
    refine ⟨_, _, addSub2_popped_of_cons (Prod.eta _).symm hs, rfl, fun hC =>
      ⟨_, _, addSub2_popped_of_cons (Prod.eta _).symm hu, rfl, ?_⟩⟩
    have hC' : u.C.toNat = (addSub true .set lowA lowB s.C).2.toNat := congrArg Bool.toNat hC
    dsimp only
    omega

/-! ### COND without SEC (R250, R253 to R268) -/

/-- The two tests of the value, by its sign (R250). -/
theorem condTest_eq (a b c y : Bool) (x : Cell) (carry : Bool) :
    condTest a b c y x carry = ((decide (x.toInt < 0) && a || decide (x.toInt = 0) && b || carry && c) == y) := by
  have hzero : decide (x = 0#64) = decide (x.toInt = 0) := by
    rw [decide_eq_decide, ← BitVec.toInt_inj, BitVec.toInt_zero]
  rw [condTest, BitVec.msb_eq_toInt, hzero]

theorem condPrefix_eq_popD {a b c y : Bool} (hsec : s.secp = false) :
    condPrefix a b c y s = popD s fun value t =>
      .next (((t.takeLatches .cond).withCondp (some (condTest a b c y value s.C))).advance 1) := by
  rw [condPrefix, if_neg (by simp [hsec])]

theorem condPrefix_eq_popS {a b c y : Bool} (hsec : s.secp = true) :
    condPrefix a b c y s = popS s fun value t =>
      .next (((t.takeLatches .cond).withCondp (some (condTest a b c y value s.C))).advance 1) := by
  rw [condPrefix, if_pos hsec]

theorem condPrefix_of_test {a b c y v : Bool} {x : Cell} {rest : List Cell} (hv : condTest a b c y x s.C = v)
    (hsec : s.secp = false) (hD : s.D = x :: rest) :
    condPrefix a b c y s = .next { s.after 1 rest s.Rs with condp := some v } := by
  rw [condPrefix_of_not_secp hsec hD, hv]
  simp only [State.after, hsec, ite_self]

section Tests

variable (x : Cell) (carry : Bool)

theorem condTest_always : condTest false false false false x carry = true := by simp [condTest]

theorem condTest_never : condTest false false false true x carry = false := by simp [condTest]

theorem condTest_c0 : condTest false false true false x carry = !carry := by simp [condTest]

theorem condTest_c1 : condTest false false true true x carry = carry := by simp [condTest]

theorem condTest_nz : condTest false true false false x carry = decide (x ≠ 0) := by simp [condTest]

theorem condTest_z : condTest false true false true x carry = decide (x = 0) := by simp [condTest]

theorem condTest_nzC0 : condTest false true true false x carry = (decide (x ≠ 0) && !carry) := by simp [condTest]

theorem condTest_zC1 : condTest false true true true x carry = (decide (x = 0) || carry) := by simp [condTest]

theorem condTest_lt : condTest true false false true x carry = decide (x.toInt < 0) := by simp [condTest_eq]

theorem condTest_ge : condTest true false false false x carry = decide (0 ≤ x.toInt) := by
  simp [condTest_eq, ← decide_not]

theorem condTest_geC0 : condTest true false true false x carry = (decide (0 ≤ x.toInt) && !carry) := by
  simp [condTest_eq, ← decide_not]

theorem condTest_ltC1 : condTest true false true true x carry = (decide (x.toInt < 0) || carry) := by
  simp [condTest_eq]

theorem decide_lt_or_decide_eq_zero : (decide (x.toInt < 0) || decide (x.toInt = 0)) = decide (x.toInt ≤ 0) := by
  rw [← Bool.decide_or, decide_eq_decide, le_iff_lt_or_eq]

theorem condTest_le : condTest true true false true x carry = decide (x.toInt ≤ 0) := by
  simp [condTest_eq, decide_lt_or_decide_eq_zero]

theorem condTest_gt : condTest true true false false x carry = decide (0 < x.toInt) := by
  simp only [condTest_eq, Bool.and_true, Bool.and_false, Bool.or_false, decide_lt_or_decide_eq_zero]
  simp [← decide_not]

theorem condTest_leC1 : condTest true true true true x carry = (decide (x.toInt ≤ 0) || carry) := by
  simp [condTest_eq, decide_lt_or_decide_eq_zero]

theorem condTest_gtC0 : condTest true true true false x carry = (decide (0 < x.toInt) && !carry) := by
  simp only [condTest_eq, Bool.and_true, decide_lt_or_decide_eq_zero]
  simp [← decide_not]

end Tests

/-- Settles O47: each encoding latches its test of the cell popped. -/
theorem condTestsTheTop : Obligations.CondTestsTheTop := by
  intro s x rest hsec hD
  refine ⟨?always, ?never, ?c0, ?c1, ?nz, ?z, ?nzC0, ?zC1, ?ge, ?lt, ?geC0, ?ltC1, ?gt, ?le, ?gtC0, ?leC1⟩
  case always => exact condPrefix_of_test (condTest_always x s.C) hsec hD
  case never => exact condPrefix_of_test (condTest_never x s.C) hsec hD
  case c0 => exact condPrefix_of_test (condTest_c0 x s.C) hsec hD
  case c1 => exact condPrefix_of_test (condTest_c1 x s.C) hsec hD
  case nz => exact condPrefix_of_test (condTest_nz x s.C) hsec hD
  case z => exact condPrefix_of_test (condTest_z x s.C) hsec hD
  case nzC0 => exact condPrefix_of_test (condTest_nzC0 x s.C) hsec hD
  case zC1 => exact condPrefix_of_test (condTest_zC1 x s.C) hsec hD
  case ge => exact condPrefix_of_test (condTest_ge x s.C) hsec hD
  case lt => exact condPrefix_of_test (condTest_lt x s.C) hsec hD
  case geC0 => exact condPrefix_of_test (condTest_geC0 x s.C) hsec hD
  case ltC1 => exact condPrefix_of_test (condTest_ltC1 x s.C) hsec hD
  case gt => exact condPrefix_of_test (condTest_gt x s.C) hsec hD
  case le => exact condPrefix_of_test (condTest_le x s.C) hsec hD
  case gtC0 => exact condPrefix_of_test (condTest_gtC0 x s.C) hsec hD
  case leC1 => exact condPrefix_of_test (condTest_leC1 x s.C) hsec hD

end Sys2Proof.Machine
end

section
/-! PROOF. Direct jumps and calls (46_branches.md) and effective addresses (48_pea.md): one equation for each meaning,
with the base the displacement is added to. -/

namespace Sys2Proof.Machine

variable {s : State}

/-! ### The address a displacement gives -/

theorem State.relative_eq (s : State) (n : Nat) (disp : Cell) : s.relative n disp = s.relBase (1 + n) + disp := by
  cases h : s.config.relBase <;> simp [State.relative, State.relBase, h]

theorem State.relative_signExtend {w : Nat} (s : State) (n : Nat) (imm : BitVec w) :
    s.relative n (imm.signExtend 64) = s.relBase (1 + n) + BitVec.ofInt 64 imm.toInt := by
  rw [State.relative_eq, BitVec.signExtend]

/-! ### JMP -/

theorem jump_eq (n : Nat) (disp : Cell) (s : State) :
    jump n disp s = .next (s.transferred
      (if s.condp = some false then s.pc + BitVec.ofNat 64 (1 + n) else s.relative n disp) s.D s.Rs) := by
  rw [jump, State.ite_cond, State.withPc_takeLatches_transfer, State.advance_takeLatches_transfer]
  split <;> rfl

theorem jump_signExtend_eq {w : Nat} (n : Nat) (imm : BitVec w) (s : State) :
    jump n (imm.signExtend 64) s = .next (s.transferred
      (if s.condp = some false then s.pc + BitVec.ofNat 64 (1 + n)
        else s.relBase (1 + n) + BitVec.ofInt 64 imm.toInt) s.D s.Rs) := by
  rw [jump_eq, State.relative_signExtend]

/-- Settles O49: the three narrower displacements are sign-extended, and a 64-bit one is the cell itself. -/
theorem jumpTargets : Obligations.JumpTargets := by
  intro s d8 d16 d32 d64
  refine ⟨jump_signExtend_eq 1 d8 s, jump_signExtend_eq 2 d16 s, jump_signExtend_eq 4 d32 s, ?_⟩
  have h := jump_eq 8 d64 s
  rwa [State.relative_eq] at h

/-! ### CALL -/

theorem call_of_not_taken (n : Nat) (disp : Cell) (h : s.condp = some false) :
    call n disp s = .next (s.transferred (s.pc + BitVec.ofNat 64 (1 + n)) s.D s.Rs) := by
  rw [call, State.cond_of_condp_false h, if_neg Bool.false_ne_true, State.advance_takeLatches_transfer]

theorem call_of_hasRoom (n : Nat) (disp : Cell) (h : s.condp ≠ some false)
    (hroom : hasRoom s.config.rsDepth s.Rs = true) :
    call n disp s =
      .next (s.transferred (s.relative n disp) s.D ((s.pc + BitVec.ofNat 64 (1 + n)) :: s.Rs)) := by
  rw [call, if_pos (State.cond_of_condp_ne_false h), pushR_of_hasRoom hroom, State.withPc_takeLatches_transfer]
  rfl

theorem call_of_full (n : Nat) (disp : Cell) (h : s.condp ≠ some false)
    (hfull : hasRoom s.config.rsDepth s.Rs = false) : call n disp s = .fault .rstackOverflow := by
  rw [call, if_pos (State.cond_of_condp_ne_false h), pushR_of_full hfull]

theorem call_signExtend_of_hasRoom {w : Nat} (n : Nat) (imm : BitVec w) (h : s.condp ≠ some false)
    (hroom : hasRoom s.config.rsDepth s.Rs = true) :
    call n (imm.signExtend 64) s =
      .next (s.transferred (s.relBase (1 + n) + BitVec.ofInt 64 imm.toInt) s.D
        ((s.pc + BitVec.ofNat 64 (1 + n)) :: s.Rs)) := by
  rw [call_of_hasRoom n _ h hroom, State.relative_signExtend]

/-- Settles O50: taken with room, or not taken. -/
theorem callTargets : Obligations.CallTargets := by
  intro s d8 d16 d32 d64
  refine ⟨fun h hroom => ?taken, fun h => ?notTaken⟩
  case taken =>
    refine ⟨call_signExtend_of_hasRoom 1 d8 h hroom, call_signExtend_of_hasRoom 2 d16 h hroom,
      call_signExtend_of_hasRoom 4 d32 h hroom, ?_⟩
    have h64 := call_of_hasRoom 8 d64 h hroom
    rwa [State.relative_eq] at h64
  case notTaken =>
    exact ⟨call_of_not_taken 1 _ h, call_of_not_taken 2 _ h, call_of_not_taken 4 _ h, call_of_not_taken 8 _ h⟩

/-! ### PEAR and PEAD -/

theorem addressToR_of_hasRoom (n : Nat) (disp : Cell) (hroom : hasRoom s.config.rsDepth s.Rs = true) :
    addressToR n disp s = .next (s.after (1 + n) s.D (s.relative n disp :: s.Rs)) := by
  rw [addressToR, pushR_of_hasRoom hroom, finish_eq]
  rfl

theorem addressToR_of_full (n : Nat) (disp : Cell) (hfull : hasRoom s.config.rsDepth s.Rs = false) :
    addressToR n disp s = .fault .rstackOverflow :=
  pushR_of_full hfull

/-- PEAD pushes its address as a literal is pushed. -/
theorem addressToD_of_hasRoom (n : Nat) (disp : Cell) (hroom : hasRoom s.config.dsDepth s.D = true) :
    addressToD n disp s = .next (s.after (1 + n) (s.relative n disp :: s.D) s.Rs) :=
  literal_of_hasRoom n _ hroom

theorem addressToR_signExtend_of_hasRoom {w : Nat} (n : Nat) (imm : BitVec w)
    (hroom : hasRoom s.config.rsDepth s.Rs = true) :
    addressToR n (imm.signExtend 64) s =
      .next (s.after (1 + n) s.D ((s.relBase (1 + n) + BitVec.ofInt 64 imm.toInt) :: s.Rs)) := by
  rw [addressToR_of_hasRoom n _ hroom, State.relative_signExtend]

theorem addressToD_signExtend_of_hasRoom {w : Nat} (n : Nat) (imm : BitVec w)
    (hroom : hasRoom s.config.dsDepth s.D = true) :
    addressToD n (imm.signExtend 64) s =
      .next (s.after (1 + n) ((s.relBase (1 + n) + BitVec.ofInt 64 imm.toInt) :: s.D) s.Rs) := by
  rw [addressToD_of_hasRoom n _ hroom, State.relative_signExtend]

/-- Settles O51: PEAR and PEAD differ in the stack pushed on. -/
theorem effectiveAddresses : Obligations.EffectiveAddresses := by
  intro s d8 d16 d32 d64
  refine ⟨fun hroom => ?pear, fun hroom => ?pead⟩
  case pear =>
    refine ⟨addressToR_signExtend_of_hasRoom 1 d8 hroom, addressToR_signExtend_of_hasRoom 2 d16 hroom,
      addressToR_signExtend_of_hasRoom 4 d32 hroom, ?_⟩
    have h := addressToR_of_hasRoom 8 d64 hroom
    rwa [State.relative_eq] at h
  case pead =>
    refine ⟨addressToD_signExtend_of_hasRoom 1 d8 hroom, addressToD_signExtend_of_hasRoom 2 d16 hroom,
      addressToD_signExtend_of_hasRoom 4 d32 hroom, ?_⟩
    have h := addressToD_of_hasRoom 8 d64 hroom
    rwa [State.relative_eq] at h

end Sys2Proof.Machine
end

section
/-! PROOF. Shifts, rotations and PERMUTE (47_shifts.md R290 to R300): the one-bit step applied `k` times is the closed
form, by induction on `k`, a step being one more place of the shift or rotation. -/

namespace Sys2Proof.Machine

variable {s : State}

/-! ### Rotations, one place at a time -/

section Rotations

variable {w : Nat} (x : BitVec w) (k : Nat)

theorem rotateLeft_zero : x.rotateLeft 0 = x := by
  ext i hi
  simp [BitVec.getElem_rotateLeft]

theorem rotateRight_zero : x.rotateRight 0 = x := by
  ext i hi
  simp [BitVec.getElem_rotateRight, hi]

/-- The bit that a left rotation brings to place `i`. -/
theorem getLsbD_rotateLeft_of_lt {i : Nat} (hi : i < w) :
    (x.rotateLeft k).getLsbD i = x.getLsbD (if i < k % w then w - k % w + i else i - k % w) := by
  rw [BitVec.getLsbD_rotateLeft, decide_eq_true hi, Bool.true_and, Bool.cond_decide]
  split <;> rfl

/-- The bit that a right rotation brings to place `i`. -/
theorem getLsbD_rotateRight_of_lt {i : Nat} (hi : i < w) :
    (x.rotateRight k).getLsbD i = x.getLsbD (if i < w - k % w then k % w + i else i - (w - k % w)) := by
  rw [BitVec.getLsbD_rotateRight, decide_eq_true hi, Bool.true_and, Bool.cond_decide]
  split <;> rfl

theorem getLsbD_rotateLeft_one {i : Nat} (hw : 1 < w) (hi : i < w) :
    (x.rotateLeft 1).getLsbD i = x.getLsbD (if i = 0 then w - 1 else i - 1) := by
  rw [getLsbD_rotateLeft_of_lt x 1 hi, Nat.mod_eq_of_lt hw]
  congr 1
  split_ifs <;> omega

theorem getLsbD_rotateRight_one {i : Nat} (hw : 1 < w) (hi : i < w) :
    (x.rotateRight 1).getLsbD i = x.getLsbD (if i = w - 1 then 0 else 1 + i) := by
  rw [getLsbD_rotateRight_of_lt x 1 hi, Nat.mod_eq_of_lt hw]
  congr 1
  split_ifs <;> omega

/-- Counting one place on, modulo the width. -/
theorem succ_mod_eq_ite (hw : 1 < w) : (k + 1) % w = if k % w + 1 = w then 0 else k % w + 1 := by
  have hlt := Nat.mod_lt k (by omega : 0 < w)
  rw [Nat.add_mod_eq_ite, Nat.mod_eq_of_lt hw]
  split_ifs <;> omega

theorem rotateLeft_succ (hw : 1 < w) : x.rotateLeft (k + 1) = (x.rotateLeft k).rotateLeft 1 := by
  have hlt := Nat.mod_lt k (by omega : 0 < w)
  apply BitVec.eq_of_getLsbD_eq
  intro i hi
  have hprev : (if i = 0 then w - 1 else i - 1) < w := by split_ifs <;> omega
  rw [getLsbD_rotateLeft_of_lt x (k + 1) hi, getLsbD_rotateLeft_one (x.rotateLeft k) hw hi,
    getLsbD_rotateLeft_of_lt x k hprev, succ_mod_eq_ite k hw]
  congr 1
  split_ifs <;> omega

theorem rotateRight_succ (hw : 1 < w) : x.rotateRight (k + 1) = (x.rotateRight k).rotateRight 1 := by
  have hlt := Nat.mod_lt k (by omega : 0 < w)
  apply BitVec.eq_of_getLsbD_eq
  intro i hi
  have hnext : (if i = w - 1 then 0 else 1 + i) < w := by split_ifs <;> omega
  rw [getLsbD_rotateRight_of_lt x (k + 1) hi, getLsbD_rotateRight_one (x.rotateRight k) hw hi,
    getLsbD_rotateRight_of_lt x k hnext, succ_mod_eq_ite k hw]
  congr 1
  split_ifs <;> omega

end Rotations

/-! ### The one-bit step as one place of a rotation, of the cell or of the cell under the carry -/

theorem getLsbD_append_bit (n : Cell) (b : Bool) {i : Nat} (hi : i < 64) :
    (n.extractLsb' 0 63 ++ BitVec.ofBool b : BitVec 64).getLsbD i = if i = 0 then b else n.getLsbD (i - 1) := by
  have hlow : i - 1 < 63 := by omega
  rw [BitVec.getLsbD_append, BitVec.getLsbD_extractLsb', decide_eq_true hlow, Bool.true_and, Nat.zero_add,
    BitVec.getLsbD_ofBool]
  by_cases hzero : i = 0
  · simp [hzero]
  · rw [if_neg hzero, if_neg (by omega)]

theorem getLsbD_bit_append (n : Cell) (b : Bool) {i : Nat} (hi : i < 64) :
    (BitVec.ofBool b ++ n.extractLsb' 1 63 : BitVec 64).getLsbD i = if i = 63 then b else n.getLsbD (1 + i) := by
  rw [BitVec.getLsbD_append, BitVec.getLsbD_extractLsb', BitVec.getLsbD_ofBool]
  by_cases hlast : i = 63
  · simp [hlast]
  · have hlow : i < 63 := by omega
    rw [if_neg hlast, if_pos hlow, decide_eq_true hlow, Bool.true_and]

theorem rotateLeft_one_eq_append (n : Cell) :
    n.rotateLeft 1 = (n.extractLsb' 0 63 ++ BitVec.ofBool n.msb : BitVec 64) := by
  apply BitVec.eq_of_getLsbD_eq
  intro i hi
  rw [getLsbD_rotateLeft_one n (by decide) hi, getLsbD_append_bit n _ hi, msb_eq_getLsbD_63, apply_ite n.getLsbD]

theorem rotateRight_one_eq_append (n : Cell) :
    n.rotateRight 1 = (BitVec.ofBool (n.getLsbD 0) ++ n.extractLsb' 1 63 : BitVec 64) := by
  apply BitVec.eq_of_getLsbD_eq
  intro i hi
  rw [getLsbD_rotateRight_one n (by decide) hi, getLsbD_bit_append n _ hi, apply_ite n.getLsbD]

theorem rotateLeft_one_cons (c : Bool) (n : Cell) :
    (BitVec.cons c n).rotateLeft 1 = BitVec.cons n.msb (n.extractLsb' 0 63 ++ BitVec.ofBool c : BitVec 64) := by
  apply BitVec.eq_of_getLsbD_eq
  intro i hi
  rw [getLsbD_rotateLeft_one _ (by decide) hi, BitVec.getLsbD_cons n.msb, msb_eq_getLsbD_63, BitVec.getLsbD_cons]
  by_cases htop : i = 64
  · subst htop; rfl
  · rw [if_neg htop, getLsbD_append_bit n c (by omega)]
    by_cases hzero : i = 0
    · subst hzero; rfl
    · rw [if_neg hzero, if_neg hzero, if_neg (by omega)]

theorem rotateRight_one_cons (c : Bool) (n : Cell) :
    (BitVec.cons c n).rotateRight 1 =
      BitVec.cons (n.getLsbD 0) (BitVec.ofBool c ++ n.extractLsb' 1 63 : BitVec 64) := by
  apply BitVec.eq_of_getLsbD_eq
  intro i hi
  rw [getLsbD_rotateRight_one _ (by decide) hi, BitVec.getLsbD_cons (n.getLsbD 0), BitVec.getLsbD_cons]
  by_cases htop : i = 64
  · subst htop; rfl
  · have hlast : i ≠ 64 + 1 - 1 := htop
    rw [if_neg htop, getLsbD_bit_append n c (by omega), if_neg hlast]
    exact if_congr (by omega) rfl rfl

/-- Each step of the four rotations, in one bit of carry and the cell. -/
theorem shiftStep_rl (n : Cell) (c : Bool) : shiftStep .rl n c = (n.rotateLeft 1, n.msb) := by
  rw [shiftStep, shiftLeft_one_or_bit, rotateLeft_one_eq_append]

theorem shiftStep_rr (n : Cell) (c : Bool) : shiftStep .rr n c = (n.rotateRight 1, n.getLsbD 0) := by
  rw [shiftStep, ushiftRight_one_or_bit, rotateRight_one_eq_append]

theorem cons_shiftStep_rlc (n : Cell) (c : Bool) :
    BitVec.cons (shiftStep .rlc n c).2 (shiftStep .rlc n c).1 = (BitVec.cons c n).rotateLeft 1 := by
  rw [shiftStep, shiftLeft_one_or_bit, rotateLeft_one_cons]

theorem cons_shiftStep_rrc (n : Cell) (c : Bool) :
    BitVec.cons (shiftStep .rrc n c).2 (shiftStep .rrc n c).1 = (BitVec.cons c n).rotateRight 1 := by
  rw [shiftStep, ushiftRight_one_or_bit, rotateRight_one_cons]

/-! ### The step iterated: the result -/

section Iterate

variable (n : Cell) (c : Bool) (k : Nat)

/-- The last of `k + 1` steps, after the first `k`. -/
theorem shiftIterate_succ (op : ShiftOp) :
    shiftIterate op (k + 1) n c = shiftStep op (shiftIterate op k n c).1 (shiftIterate op k n c).2 := by
  induction k generalizing n c with
  | zero => rfl
  | succ k ih => exact ih _ _

theorem shiftIterate_lsl_fst : (shiftIterate .lsl k n c).1 = n <<< k := by
  induction k with
  | zero => exact (BitVec.shiftLeft_zero n).symm
  | succ k ih => rw [shiftIterate_succ, shiftStep, ih, BitVec.shiftLeft_add]

theorem shiftIterate_lsr_fst : (shiftIterate .lsr k n c).1 = n >>> k := by
  induction k with
  | zero => exact (BitVec.ushiftRight_zero n).symm
  | succ k ih => rw [shiftIterate_succ, shiftStep, ih, BitVec.shiftRight_add]

theorem shiftIterate_asr_fst : (shiftIterate .asr k n c).1 = n.sshiftRight k := by
  induction k with
  | zero => exact BitVec.sshiftRight_zero.symm
  | succ k ih => rw [shiftIterate_succ, shiftStep, ih, BitVec.sshiftRight_add]

theorem shiftIterate_rl_fst : (shiftIterate .rl k n c).1 = n.rotateLeft k := by
  induction k with
  | zero => exact (rotateLeft_zero _).symm
  | succ k ih => rw [shiftIterate_succ, shiftStep_rl, ih, rotateLeft_succ n k (by decide)]

theorem shiftIterate_rr_fst : (shiftIterate .rr k n c).1 = n.rotateRight k := by
  induction k with
  | zero => exact (rotateRight_zero _).symm
  | succ k ih => rw [shiftIterate_succ, shiftStep_rr, ih, rotateRight_succ n k (by decide)]

theorem cons_shiftIterate_rlc :
    BitVec.cons (shiftIterate .rlc k n c).2 (shiftIterate .rlc k n c).1 = (BitVec.cons c n).rotateLeft k := by
  induction k with
  | zero => exact (rotateLeft_zero _).symm
  | succ k ih => rw [shiftIterate_succ, cons_shiftStep_rlc, ih, rotateLeft_succ _ k (by decide)]

theorem cons_shiftIterate_rrc :
    BitVec.cons (shiftIterate .rrc k n c).2 (shiftIterate .rrc k n c).1 = (BitVec.cons c n).rotateRight k := by
  induction k with
  | zero => exact (rotateRight_zero _).symm
  | succ k ih => rw [shiftIterate_succ, cons_shiftStep_rrc, ih, rotateRight_succ _ k (by decide)]

/-! ### The step iterated: the carry, which is the end bit of the operand of the last step -/

theorem shiftIterate_lsl (hk : 1 ≤ k) : shiftIterate .lsl k n c = (n <<< k, (n <<< (k - 1)).msb) := by
  obtain ⟨j, rfl⟩ : ∃ j, k = j + 1 := ⟨k - 1, by omega⟩
  rw [← shiftIterate_lsl_fst n c, shiftIterate_succ, shiftStep, shiftIterate_lsl_fst, Nat.add_sub_cancel]

theorem shiftIterate_lsr (hk : 1 ≤ k) : shiftIterate .lsr k n c = (n >>> k, (n >>> (k - 1)).getLsbD 0) := by
  obtain ⟨j, rfl⟩ : ∃ j, k = j + 1 := ⟨k - 1, by omega⟩
  rw [← shiftIterate_lsr_fst n c, shiftIterate_succ, shiftStep, shiftIterate_lsr_fst, Nat.add_sub_cancel]

theorem shiftIterate_asr (hk : 1 ≤ k) :
    shiftIterate .asr k n c = (n.sshiftRight k, (n.sshiftRight (k - 1)).getLsbD 0) := by
  obtain ⟨j, rfl⟩ : ∃ j, k = j + 1 := ⟨k - 1, by omega⟩
  rw [← shiftIterate_asr_fst n c, shiftIterate_succ, shiftStep, shiftIterate_asr_fst, Nat.add_sub_cancel]

/-- The bit rotated out at one end is the bit rotated in at the other. -/
theorem shiftIterate_rl (hk : 1 ≤ k) :
    shiftIterate .rl k n c = (n.rotateLeft k, (n.rotateLeft k).getLsbD 0) := by
  obtain ⟨j, rfl⟩ : ∃ j, k = j + 1 := ⟨k - 1, by omega⟩
  have hbit : ((n.rotateLeft j).rotateLeft 1).getLsbD 0 = (n.rotateLeft j).msb := by
    rw [rotateLeft_one_eq_append, BitVec.getLsbD_append]
    simp
  rw [shiftIterate_succ, shiftStep_rl, shiftIterate_rl_fst, rotateLeft_succ n j (by decide), hbit]

theorem shiftIterate_rr (hk : 1 ≤ k) : shiftIterate .rr k n c = (n.rotateRight k, (n.rotateRight k).msb) := by
  obtain ⟨j, rfl⟩ : ∃ j, k = j + 1 := ⟨k - 1, by omega⟩
  have hbit : ((n.rotateRight j).rotateRight 1).msb = (n.rotateRight j).getLsbD 0 := by
    rw [rotateRight_one_eq_append, BitVec.msb_append]
    simp
  rw [shiftIterate_succ, shiftStep_rr, shiftIterate_rr_fst, rotateRight_succ n j (by decide), hbit]

/-- The cell and the carry, taken apart again. -/
theorem pair_eq_of_cons {b : Bool} {x : Cell} {v : BitVec 65} (h : BitVec.cons b x = v) :
    (x, b) = (v.setWidth 64, v.msb) := by
  rw [← h, BitVec.setWidth_cons, BitVec.msb_cons]

theorem shiftIterate_rlc :
    shiftIterate .rlc k n c =
      (((BitVec.cons c n).rotateLeft k).setWidth 64, ((BitVec.cons c n).rotateLeft k).msb) :=
  pair_eq_of_cons (cons_shiftIterate_rlc n c k)

theorem shiftIterate_rrc :
    shiftIterate .rrc k n c =
      (((BitVec.cons c n).rotateRight k).setWidth 64, ((BitVec.cons c n).rotateRight k).msb) :=
  pair_eq_of_cons (cons_shiftIterate_rrc n c k)

/-! ### The carries of the three shifts, as bits of the operand (R292) -/

theorem msb_shiftLeft_pred (hk : 1 ≤ k) :
    (n <<< (k - 1)).msb = if k ≤ 64 then n.getLsbD (64 - k) else false := by
  rw [msb_eq_getLsbD_63, BitVec.getLsbD_shiftLeft]
  split
  case isTrue hle =>
    have hbit : 63 - (k - 1) = 64 - k := by omega
    have hlow : ¬ 63 < k - 1 := by omega
    simp [hbit, hlow]
  case isFalse hgt =>
    have hlow : 63 < k - 1 := by omega
    simp [hlow]

theorem getLsbD_zero_ushiftRight_pred :
    (n >>> (k - 1)).getLsbD 0 = if k ≤ 64 then n.getLsbD (k - 1) else false := by
  rw [BitVec.getLsbD_ushiftRight, Nat.add_zero]
  split
  case isTrue => rfl
  case isFalse => exact BitVec.getLsbD_of_ge n _ (by omega)

theorem getLsbD_zero_sshiftRight_pred (hk : 1 ≤ k) :
    (n.sshiftRight (k - 1)).getLsbD 0 = if k ≤ 63 then n.getLsbD (k - 1) else n.msb := by
  rw [BitVec.getLsbD_sshiftRight, Nat.add_zero]
  by_cases hle : k ≤ 63
  · have hlt : k - 1 < 64 := by omega
    simp [hle, hlt]
  · by_cases hlt : k - 1 < 64
    · have hlast : k - 1 = 63 := by omega
      simp [hle, hlast, msb_eq_getLsbD_63]
    · simp [hle, hlt]

theorem sshiftRight_of_ge (hk : 64 ≤ k) : n.sshiftRight k = spread n.msb := by
  ext i hi
  have hge : ¬ k + i < 64 := by omega
  rw [BitVec.getElem_sshiftRight, dif_neg hge, getElem_spread]

/-- The closed forms the machine computes are the one-bit step iterated (R292). -/
theorem shiftBy_eq_shiftIterate (op : ShiftOp) : shiftBy op k n c = shiftIterate op k n c := by
  rcases Nat.eq_zero_or_pos k with rfl | hk
  · rfl
  unfold shiftBy
  rw [if_neg (by omega)]
  cases op with
  | lsl =>
    rw [shiftIterate_lsl n c k hk, msb_shiftLeft_pred n k hk]
    dsimp only
    split
    · rfl
    · rw [BitVec.shiftLeft_eq_zero (by omega)]
  | lsr =>
    rw [shiftIterate_lsr n c k hk, getLsbD_zero_ushiftRight_pred n k]
    dsimp only
    split
    · rfl
    · rw [BitVec.ushiftRight_eq_zero (by omega)]
  | asr =>
    rw [shiftIterate_asr n c k hk, getLsbD_zero_sshiftRight_pred n k hk]
    dsimp only
    split
    · rfl
    · rw [sshiftRight_of_ge n k (by omega)]
  | rl =>
    dsimp only
    rw [shiftIterate_rl n c k hk, BitVec.rotateLeft_mod_eq_rotateLeft]
  | rr =>
    dsimp only
    rw [shiftIterate_rr n c k hk, BitVec.rotateRight_mod_eq_rotateRight]
  | rlc =>
    dsimp only
    rw [shiftIterate_rlc, BitVec.rotateLeft_mod_eq_rotateLeft]
  | rrc =>
    dsimp only
    rw [shiftIterate_rrc, BitVec.rotateRight_mod_eq_rotateRight]

/-! ### The closed forms in the terms of R292 -/

theorem shiftLeft_eq_ofNat : n <<< k = BitVec.ofNat 64 (n.toNat * 2 ^ k) := by
  rw [← Nat.shiftLeft_eq]
  rfl

theorem ushiftRight_eq_ofNat : n >>> k = BitVec.ofNat 64 (n.toNat / 2 ^ k) := by
  apply BitVec.eq_of_toNat_eq
  have hlt : n.toNat / 2 ^ k < 2 ^ 64 := (Nat.div_le_self ..).trans_lt n.isLt
  rw [BitVec.toNat_ushiftRight, BitVec.toNat_ofNat, Nat.shiftRight_eq_div_pow, Nat.mod_eq_of_lt hlt]

theorem sshiftRight_eq_ofInt : n.sshiftRight k = BitVec.ofInt 64 (n.toInt / 2 ^ k) := by
  rw [BitVec.sshiftRight, Int.shiftRight_eq_div_pow]
  norm_cast

end Iterate

/-- Settles O54: the closed forms of `shiftBy`, which are the iterated step, under each clause's bound on the count. -/
theorem shiftClosedForms : Obligations.ShiftClosedForms := by
  intro n c k
  refine ⟨fun hk op => ?zero, fun hk hle => ?shift, fun hgt => ?beyond, fun hk hle => ?asr, fun hge => ?sign,
    fun hk => ?rotate, ?rlc, ?rrc⟩
  case zero => rw [hk, shiftIterate]
  case shift =>
    rw [shiftIterate_lsl n c k hk, shiftIterate_lsr n c k hk, msb_shiftLeft_pred n k hk,
      getLsbD_zero_ushiftRight_pred n k, if_pos hle, if_pos hle, shiftLeft_eq_ofNat, ushiftRight_eq_ofNat]
    exact ⟨rfl, rfl⟩
  case beyond =>
    have hk : 1 ≤ k := by omega
    rw [shiftIterate_lsl n c k hk, shiftIterate_lsr n c k hk, msb_shiftLeft_pred n k hk,
      getLsbD_zero_ushiftRight_pred n k, if_neg (by omega), if_neg (by omega),
      BitVec.shiftLeft_eq_zero (by omega), BitVec.ushiftRight_eq_zero (by omega)]
    exact ⟨rfl, rfl⟩
  case asr =>
    rw [shiftIterate_asr n c k hk, getLsbD_zero_sshiftRight_pred n k hk, if_pos hle, sshiftRight_eq_ofInt]
  case sign =>
    rw [shiftIterate_asr n c k (by omega), getLsbD_zero_sshiftRight_pred n k (by omega), if_neg (by omega),
      sshiftRight_of_ge n k hge, msb_eq_getLsbD_63, spread]
  case rotate =>
    rw [shiftIterate_rl n c k hk, shiftIterate_rr n c k hk, ← BitVec.rotateLeft_mod_eq_rotateLeft,
      ← BitVec.rotateRight_mod_eq_rotateRight, msb_eq_getLsbD_63]
    exact ⟨rfl, rfl⟩
  case rlc =>
    rw [shiftIterate_rlc, ← BitVec.rotateLeft_mod_eq_rotateLeft, BitVec.msb_eq_getLsbD_last]
  case rrc =>
    rw [shiftIterate_rrc, ← BitVec.rotateRight_mod_eq_rotateRight, BitVec.msb_eq_getLsbD_last]

/-! ### The instructions -/

theorem shift_of_cons {op : ShiftOp} {cnt n : Cell} {rest : List Cell} {v : Cell × Bool}
    (hv : shiftResult s.config.shiftFn op n cnt s.C = v) (hD : s.D = cnt :: n :: rest) :
    shift op s = .next { s.after 1 (v.1 :: rest) s.Rs with C := v.2 } := by
  rw [shift, binary_popped_of_cons hD, hv]

theorem exec_eq_shift_of_mem {p : Instr × ShiftOp}
    (hp : p ∈ [(Instr.lsl, ShiftOp.lsl), (Instr.lsr, ShiftOp.lsr), (Instr.asr, ShiftOp.asr), (Instr.rl, ShiftOp.rl),
      (Instr.rlc, ShiftOp.rlc), (Instr.rr, ShiftOp.rr), (Instr.rrc, ShiftOp.rrc)]) : exec p.1 = shift p.2 := by
  simp only [List.mem_cons, List.not_mem_nil, or_false] at hp
  rcases hp with rfl | rfl | rfl | rfl | rfl | rfl | rfl <;> rfl

/-- Settles O52: SHIFT_FN selects the iterated step, or for a count other than 1 the platform's function. -/
theorem shiftResults : Obligations.ShiftResults := by
  intro s n cnt rest hD p hp
  rw [exec_eq_shift_of_mem hp]
  refine ⟨fun hfn => shift_of_cons ?iterate hD, fun hfn hone => shift_of_cons ?one hD,
    fun hfn hne => shift_of_cons ?other hD⟩
  case iterate => rw [hfn, shiftResult, shiftBy_eq_shiftIterate]
  case one =>
    have hcount : cnt.toNat = 1 := by rw [hone]; rfl
    rw [hfn, shiftResult, if_pos hcount]
  case other =>
    have hcount : cnt.toNat ≠ 1 := fun h => hne (BitVec.eq_of_toNat_eq h)
    rw [hfn, shiftResult, if_neg hcount]

/-! ### PERMUTE (R296) -/

/-- A bit of an OR over a list is set where it was, or where some member sets it. -/
theorem getLsbD_foldl_or {α : Type} (f : α → Cell) (xs : List α) (r : Cell) (i : Nat) :
    (xs.foldl (fun r x => r ||| f x) r).getLsbD i = true ↔
      r.getLsbD i = true ∨ ∃ x ∈ xs, (f x).getLsbD i = true := by
  induction xs generalizing r with
  | nil => simp
  | cons x xs ih => simp [ih, or_assoc]

/-- A nybble moved to place `t` sets bit `j` of place `d` exactly when `t` is `d` and its own bit `j` is set. -/
theorem getLsbD_placed_nybble (v : BitVec 4) {t d j : Nat} (hd : d < 16) (hj : j < 4) :
    (v.zeroExtend 64 <<< (4 * t)).getLsbD (4 * d + j) = true ↔ t = d ∧ v.getLsbD j = true := by
  have hlt : 4 * d + j < 64 := by omega
  have hlt' : 4 * d + j - 4 * t < 64 := by omega
  rw [BitVec.getLsbD_shiftLeft, BitVec.getLsbD_setWidth]
  simp only [hlt, hlt', decide_true, Bool.true_and, Bool.and_eq_true, Bool.not_eq_true', decide_eq_false_iff_not]
  constructor
  case mp =>
    rintro ⟨hge, hbit⟩
    have hwidth := BitVec.lt_of_getLsbD hbit
    obtain rfl : t = d := by omega
    have hplace : 4 * t + j - 4 * t = j := by omega
    rw [hplace] at hbit
    exact ⟨rfl, hbit⟩
  case mpr =>
    rintro ⟨rfl, hbit⟩
    have hplace : 4 * t + j - 4 * t = j := by omega
    rw [hplace]
    exact ⟨by omega, hbit⟩

theorem getLsbD_nybble (v : Cell) (i : Nat) {j : Nat} (hj : j < 4) :
    (nybble v i).getLsbD j = v.getLsbD (4 * i + j) := by
  simp [nybble, hj]

theorem getLsbD_permute (n idx : Cell) {d j : Nat} (hd : d < 16) (hj : j < 4) :
    (permute n idx).getLsbD (4 * d + j) = true ↔
      ∃ i < 16, (nybble idx i).toNat = d ∧ n.getLsbD (4 * i + j) = true := by
  rw [permute, getLsbD_foldl_or]
  simp only [BitVec.getLsbD_zero, Bool.false_eq_true, false_or, List.mem_range, getLsbD_placed_nybble _ hd hj,
    getLsbD_nybble _ _ hj]

theorem binary_of_short {inputs : Inputs} {f : Cell → Cell → Bool → Cell × Bool} (h : s.D.length < 2) :
    binary inputs f s = .fault .dstackUnderflow := by
  unfold binary
  split
  case h_1 hD => simp [hD] at h
  case h_2 => rfl

theorem execPermute_of_short (h : s.D.length < 2) : execPermute s = .fault .dstackUnderflow := binary_of_short h

/-- Settles O55: the result is the OR of the placed nybbles. -/
theorem permuteScattersNybbles : Obligations.PermuteScattersNybbles := by
  refine ⟨fun s n idx rest hD => ?result, fun s h => execPermute_of_short h⟩
  exact ⟨permute n idx, binary_popped_of_cons hD, fun d hd j hj => getLsbD_permute n idx hd hj⟩

end Sys2Proof.Machine
end

section
/-! PROOF. Statements over every instruction that `Effect` does not give: the faults (60_exceptions.md R358), and the
two settings of PREFIX_PERSIST (70_reset_and_hazards.md R386). The 256 instructions are sorted once, by the meaning
they share; each statement is then one case per meaning. -/

namespace Sys2Proof.Machine

variable {s : State}

/-! ### The instructions, sorted by meaning -/

/-- An instruction that reads neither latch, needs `needs` data-stack cells, and grows the data stack or does not. -/
structure PlainInstr (i : Instr) (needs : Nat) (grows : Bool) : Prop where
  notReads : i.readsCond = false
  notCond : i.isCond = false
  needs : i.dataNeeded = needs
  grows : i.growsDataStack = grows

/-- An instruction that reads the condition by one of the shared meanings, none of which takes a data-stack cell. -/
structure TransferInstr (i : Instr) : Prop where
  notCond : i.isCond = false
  needs : i.dataNeeded = 0
  grows : i.growsDataStack = false

/-- The meanings instructions share, and the ten that belong to one instruction each. -/
inductive Meaning : Instr → (State → Result) → Prop where
  | binary {i : Instr} (inputs : Inputs) (f : ShiftFn → Cell → Cell → Bool → Cell × Bool)
      (plain : PlainInstr i 2 (decide (inputs = .kept))) :
      Meaning i fun s => Machine.binary inputs (f s.config.shiftFn) s
  | unary {i : Instr} (inputs : Inputs) (f : Cell → Cell) (plain : PlainInstr i 1 (decide (inputs = .kept))) :
      Meaning i (Machine.unary inputs f)
  | literal {i : Instr} (n : Nat) (v : Cell) (plain : PlainInstr i 0 true) : Meaning i (Machine.literal n v)
  | addressToD {i : Instr} (n : Nat) (disp : Cell) (plain : PlainInstr i 0 true) :
      Meaning i (Machine.addressToD n disp)
  | addressToR {i : Instr} (n : Nat) (disp : Cell) (plain : PlainInstr i 0 false) :
      Meaning i (Machine.addressToR n disp)
  | cond {i : Instr} (a b c y : Bool) (needs : i.dataNeeded = 0) (grows : i.growsDataStack = false) :
      Meaning i (condPrefix a b c y)
  | stop {i : Instr} (tr : Cell → Trap) (transfer : TransferInstr i) : Meaning i fun s => trapIfCond (tr s.pc) s
  | jump {i : Instr} (n : Nat) (disp : Cell) (transfer : TransferInstr i) : Meaning i (Machine.jump n disp)
  | call {i : Instr} (n : Nat) (disp : Cell) (transfer : TransferInstr i) : Meaning i (Machine.call n disp)
  | store {i : Instr} (n : Nat) (plain : PlainInstr i 2 false) : Meaning i (storeCells n)
  | load {i : Instr} (signed : Bool) (n : Nat) (plain : PlainInstr i 1 false) : Meaning i (loadCell signed n)
  | enable {i : Instr} (b : Bool) (plain : PlainInstr i 0 false) : Meaning i (writeIE b)
  | illegal {i : Instr} (op : Byte) (needs : i.dataNeeded = 0) (grows : i.growsDataStack = false) :
      Meaning i (illegalOpcode op)
  | pop : Meaning .pop execPop
  | push : Meaning .push execPush
  | jmpdi : Meaning .jmpdi execJmpdi
  | calldi : Meaning .calldi execCalldi
  | ret : Meaning .ret execRet
  | switch : Meaning .switch execSwitch
  | crStore : Meaning .crStore execCrStore
  | crFetch : Meaning .crFetch execCrFetch
  | sec : Meaning .sec execSec
  | rFetch : Meaning .rFetch execRFetch

/-! The four groups of two inputs, as the form they share. -/

section Binary

variable {i : Instr} {inputs : Inputs} (plain : PlainInstr i 2 (decide (inputs = .kept)))

include plain

theorem Meaning.of_bool2 (a b c d : Bool) : Meaning i (bool2 a b c d inputs) :=
  .binary inputs (fun _ x1 x2 carry => (lut2 a b c d x1 x2, carry)) plain

theorem Meaning.of_addSub2 (b : Bool) (cc : CarryIn) : Meaning i (addSub2 b cc inputs) :=
  .binary inputs (fun _ => addSub b cc) plain

end Binary

theorem Meaning.of_shift {i : Instr} (plain : PlainInstr i 2 false) (op : ShiftOp) : Meaning i (shift op) :=
  .binary .popped (fun fn => shiftResult fn op) plain

theorem Meaning.of_permute : Meaning .permute execPermute :=
  .binary .popped (fun _ n idx carry => (permute n idx, carry)) ⟨rfl, rfl, rfl, rfl⟩

theorem exec_meaning (i : Instr) : Meaning i (exec i) := by
  cases i
  case brk => exact .stop .breakpoint ⟨rfl, rfl, rfl⟩
  case sc => exact .stop .syscall ⟨rfl, rfl, rfl⟩
  case pop => exact .pop
  case push => exact .push
  case jmpdi => exact .jmpdi
  case calldi => exact .calldi
  case ret => exact .ret
  case switch => exact .switch
  case crStore => exact .crStore
  case crFetch => exact .crFetch
  case di | ei => exact .enable _ ⟨rfl, rfl, rfl, rfl⟩
  case sec => exact .sec
  case rFetch => exact .rFetch
  case ulit8 | slit8 | ulit16 | slit16 | ulit32 | slit32 | ulit64 | slit64 => exact .literal _ _ ⟨rfl, rfl, rfl, rfl⟩
  case zero2 | twodupAnd | twodupBic | over2 | twodupSwapBic | dup2 | twodupXor | twodupOr | twodupNor | twodupXnor
    | dupInvert2 | twodupInvertOr | overInvert | twodupSwapInvertOr | twodupNand | negOne2 =>
    exact .of_bool2 (inputs := .kept) ⟨rfl, rfl, rfl, rfl⟩ _ _ _ _
  case twodropZero | and | bic | drop | swapBic | nip | xor | or | nor | xnor | invertNip | invertOr | dropInvert
    | swapInvertOr | nand | twodropNegOne => exact .of_bool2 (inputs := .popped) ⟨rfl, rfl, rfl, rfl⟩ _ _ _ _
  case zero1 | dup1 | dupInvert1 | negOne1 => exact .unary .kept _ ⟨rfl, rfl, rfl, rfl⟩
  case dropZero | nop | invert | dropNegOne => exact .unary .popped _ ⟨rfl, rfl, rfl, rfl⟩
  case twodupAdd | twodupAddPlus1 | twodupAdc | twodupAdcMinus1 | twodupSubMinus1 | twodupSub | twodupSbc
    | twodupSbcMinus1 => exact .of_addSub2 (inputs := .kept) ⟨rfl, rfl, rfl, rfl⟩ _ _
  case add | addPlus1 | adc | adcMinus1 | subMinus1 | sub | sbc | sbcMinus1 =>
    exact .of_addSub2 (inputs := .popped) ⟨rfl, rfl, rfl, rfl⟩ _ _
  case condAlways | condNever | condC0 | condC1 | condNz | condZ | condNzC0 | condZC1 | condGe | condLt
    | condGeC0 | condLtC1 | condGt | condLe | condGtC0 | condLeC1 => exact .cond _ _ _ _ rfl rfl
  case jmp8 | jmp16 | jmp32 | jmp64 => exact .jump _ _ ⟨rfl, rfl, rfl⟩
  case call8 | call16 | call32 | call64 => exact .call _ _ ⟨rfl, rfl, rfl⟩
  case lsl | lsr | asr | rl | rlc | rr | rrc => exact .of_shift ⟨rfl, rfl, rfl, rfl⟩ _
  case permute => exact .of_permute
  case pear8 | pear16 | pear32 | pear64 => exact .addressToR _ _ ⟨rfl, rfl, rfl, rfl⟩
  case pead8 | pead16 | pead32 | pead64 => exact .addressToD _ _ ⟨rfl, rfl, rfl, rfl⟩
  case st8 | st16 | st32 | st64 => exact .store _ ⟨rfl, rfl, rfl, rfl⟩
  case uld8 | sld8 | uld16 | sld16 | uld32 | sld32 | uld64 | sld64 => exact .load _ _ ⟨rfl, rfl, rfl, rfl⟩
  -- the 126 opcodes that are no instruction
  all_goals exact .illegal _ rfl rfl


/-! ### With both capacities unbounded (R358) -/

/-- The only faults an answer can be are the two underflows. -/
def UnderflowsOnly (x : Result) : Prop := ∀ r : Fault, x = .fault r → r = .dstackUnderflow ∨ r = .rstackUnderflow

theorem UnderflowsOnly.next (t : State) : UnderflowsOnly (.next t) := fun _ h => by cases h

theorem UnderflowsOnly.dstack : UnderflowsOnly (.fault .dstackUnderflow) := fun _ h => by cases h; exact .inl rfl

theorem UnderflowsOnly.rstack : UnderflowsOnly (.fault .rstackUnderflow) := fun _ h => by cases h; exact .inr rfl

theorem UnderflowsOnly.of_pushD {v : Cell} {k : State → Result} (hdepth : s.config.dsDepth = none)
    (hk : UnderflowsOnly (k (s.withD (v :: s.D)))) : UnderflowsOnly (pushD v s k) := by
  rwa [pushD_of_hasRoom (by rw [hdepth]; rfl)]

theorem UnderflowsOnly.of_pushR {v : Cell} {k : State → Result} (hdepth : s.config.rsDepth = none)
    (hk : UnderflowsOnly (k (s.withRs (v :: s.Rs)))) : UnderflowsOnly (pushR v s k) := by
  rwa [pushR_of_hasRoom (by rw [hdepth]; rfl)]

theorem UnderflowsOnly.of_popD {k : Cell → State → Result} (hk : ∀ x rest, UnderflowsOnly (k x (s.withD rest))) :
    UnderflowsOnly (popD s k) := by
  unfold popD
  split
  · exact hk _ _
  · exact .dstack

theorem UnderflowsOnly.of_popS {k : Cell → State → Result} (hk : ∀ x rest, UnderflowsOnly (k x (s.withD rest))) :
    UnderflowsOnly (popS s k) := by
  unfold popS
  split
  · exact hk _ _
  · exact .dstack

theorem UnderflowsOnly.of_popR {k : Cell → State → Result} (hk : ∀ x rest, UnderflowsOnly (k x (s.withRs rest))) :
    UnderflowsOnly (popR s k) := by
  unfold popR
  split
  · exact hk _ _
  · exact .rstack

/-- A choice between two next states, as the transfers make it. -/
theorem UnderflowsOnly.ite {c : Bool} {x y : Result} (hx : UnderflowsOnly x) (hy : UnderflowsOnly y) :
    UnderflowsOnly (if c then x else y) := by
  split
  · exact hx
  · exact hy

theorem UnderflowsOnly.of_binary (inputs : Inputs) (f : Cell → Cell → Bool → Cell × Bool)
    (hdepth : s.config.dsDepth = none) : UnderflowsOnly (binary inputs f s) := by
  unfold binary
  split
  · cases inputs with
    | kept => exact .of_pushD hdepth (.next _)
    | popped => exact .next _
  · exact .dstack

theorem UnderflowsOnly.of_unary (inputs : Inputs) (f : Cell → Cell) (hdepth : s.config.dsDepth = none) :
    UnderflowsOnly (unary inputs f s) := by
  unfold unary
  split
  · cases inputs with
    | kept => exact .of_pushD hdepth (.next _)
    | popped => exact .next _
  · exact .dstack

theorem UnderflowsOnly.of_storeCells (n : Nat) (s : State) : UnderflowsOnly (storeCells n s) := by
  unfold storeCells
  split
  · exact .ite (.next _) (.ite (.next _) (.next _))
  · exact .dstack

theorem UnderflowsOnly.of_loadCell (signed : Bool) (n : Nat) (s : State) : UnderflowsOnly (loadCell signed n s) := by
  unfold loadCell
  split
  · exact .ite (.next _) (.ite (.next _) (.next _))
  · exact .dstack

theorem UnderflowsOnly.of_condPrefix (a b c y : Bool) (s : State) : UnderflowsOnly (condPrefix a b c y s) := by
  cases hsec : s.secp with
  | false =>
    rw [condPrefix_eq_popD hsec]
    exact .of_popD fun _ _ => .next _
  | true =>
    rw [condPrefix_eq_popS hsec]
    exact .of_popS fun _ _ => .next _

theorem UnderflowsOnly.of_execRFetch (hdepth : s.config.dsDepth = none) : UnderflowsOnly (execRFetch s) := by
  unfold execRFetch
  split
  · exact .of_pushD hdepth (.next _)
  · exact .rstack

theorem Meaning.underflowsOnly {i : Instr} {f : State → Result} (m : Meaning i f) (hD : s.config.dsDepth = none)
    (hRs : s.config.rsDepth = none) : UnderflowsOnly (f s) := by
  cases m with
  | binary inputs f => exact .of_binary _ _ hD
  | unary inputs f => exact .of_unary _ _ hD
  | literal n v => exact .of_pushD hD (.next _)
  | addressToD n disp => exact .of_pushD hD (.next _)
  | addressToR n disp => exact .of_pushR hRs (.next _)
  | cond a b c y => exact .of_condPrefix _ _ _ _ _
  | stop tr => exact .ite (.next _) (.next _)
  | jump n disp => exact .ite (.next _) (.next _)
  | call n disp => exact .ite (.of_pushR hRs (.next _)) (.next _)
  | store n => exact .of_storeCells _ _
  | load signed n => exact .of_loadCell _ _ _
  | enable b => exact .ite (.next _) (.next _)
  | illegal op => exact .next _
  | pop => exact .of_popR fun _ _ => .of_pushD hD (.next _)
  | push => exact .of_popD fun _ _ => .of_pushR hRs (.next _)
  | jmpdi => exact .of_popD fun _ _ => .ite (.next _) (.next _)
  | calldi => exact .ite (.of_popD fun _ _ => .of_pushR hRs (.next _)) (.next _)
  | ret => exact .of_popR fun _ _ => .ite (.next _) (.next _)
  | switch => exact .ite (.of_popR fun _ _ => .next _) (.next _)
  | crStore => exact .of_popD fun _ _ => .of_popD fun _ _ => .ite (.next _) (.next _)
  | crFetch => exact .of_popD fun _ _ => .ite (.next _) (.next _)
  | sec => exact .next _
  | rFetch => exact .of_execRFetch hD

/-- Settles O27: no push lacks room, and what else ends in a fault is a pop. -/
theorem unboundedStacksOnlyUnderflow : Obligations.UnboundedStacksOnlyUnderflow := fun i _ r hD hRs h =>
  (exec_meaning i).underflowsOnly hD hRs r h

/-! ### Too few data-stack cells (R10, R358, R361) -/

theorem popD_popD_of_short {k : Cell → Cell → State → Result} (h : s.D.length < 2) :
    (popD s fun x t => popD t (k x)) = .fault .dstackUnderflow := by
  cases hD : s.D with
  | nil => exact popD_of_nil hD
  | cons x rest =>
    have hrest : rest = [] := by simpa [hD] using h
    rw [popD_of_cons hD]
    exact popD_of_nil hrest

theorem popS_of_short {k : Cell → State → Result} (h : s.D.length < 2) : popS s k = .fault .dstackUnderflow := by
  unfold popS
  split
  case h_1 hD => simp [hD] at h
  case h_2 => rfl

theorem unary_of_nil {inputs : Inputs} {f : Cell → Cell} (h : s.D = []) :
    unary inputs f s = .fault .dstackUnderflow := by
  simp only [unary, h]

theorem loadCell_of_nil {signed : Bool} {n : Nat} (h : s.D = []) : loadCell signed n s = .fault .dstackUnderflow := by
  simp only [loadCell, h]

theorem storeCells_of_short {n : Nat} (h : s.D.length < 2) : storeCells n s = .fault .dstackUnderflow := by
  unfold storeCells
  split
  case h_1 hD => simp [hD] at h
  case h_2 => rfl

/-- The instructions that need one cell and find none, or need two and find one, end in the fault. -/
theorem Meaning.dstackUnderflow {i : Instr} {f : State → Result} (m : Meaning i f) (h : s.D.length < i.dataNeeded) :
    f s = .fault .dstackUnderflow := by
  have hnil : i.dataNeeded = 1 → s.D = [] := by
    intro hone
    rwa [hone, Nat.lt_one_iff, List.length_eq_zero_iff] at h
  cases m with
  | binary inputs f plain => exact binary_of_short (by rwa [plain.needs] at h)
  | unary inputs f plain => exact unary_of_nil (hnil plain.needs)
  | store n plain => exact storeCells_of_short (by rwa [plain.needs] at h)
  | load signed n plain => exact loadCell_of_nil (hnil plain.needs)
  | push => exact popD_of_nil (hnil rfl)
  | jmpdi => exact popD_of_nil (hnil rfl)
  | crStore => exact popD_popD_of_short h
  | crFetch => exact popD_of_nil (hnil rfl)
  -- the others need no cell
  | literal n v plain => simp [plain.needs] at h
  | addressToD n disp plain => simp [plain.needs] at h
  | addressToR n disp plain => simp [plain.needs] at h
  | enable b plain => simp [plain.needs] at h
  | stop tr transfer => simp [transfer.needs] at h
  | jump n disp transfer => simp [transfer.needs] at h
  | call n disp transfer => simp [transfer.needs] at h
  | cond a b c y needs => simp [needs] at h
  | illegal op needs => simp [needs] at h
  | pop | calldi | ret | switch | sec | rFetch => exact absurd h (Nat.not_lt_zero _)

/-- Settles O28: a COND pops the top cell, or the second after SEC; CALLDI pops only when taken. -/
theorem dataStackUnderflow : Obligations.DataStackUnderflow := by
  refine ⟨fun i s h => (exec_meaning i).dstackUnderflow h, fun i s hcond h => ?cond, fun s h hD => ?calldi⟩
  case cond =>
    obtain ⟨a, b, c, y, hexec⟩ := exec_eq_condPrefix_of_isCond hcond
    rw [hexec]
    cases hsec : s.secp with
    | false =>
      rw [if_neg (by simp [hsec]), Nat.lt_one_iff, List.length_eq_zero_iff] at h
      rw [condPrefix_eq_popD hsec, popD_of_nil h]
    | true =>
      rw [if_pos hsec] at h
      rw [condPrefix_eq_popS hsec, popS_of_short h]
  case calldi => exact execCalldi_of_nil h hD

/-! ### Full stacks (R10, R358) -/

theorem hasRoom_eq_false {depth : Option Nat} {d : Nat} {xs : List Cell} (hdepth : depth = some d)
    (hlen : xs.length = d) : hasRoom depth xs = false := by
  simp [hasRoom, hdepth, hlen]

/-- An instruction that grows the data stack finds its inputs and then no room. -/
theorem Meaning.dstackOverflow {i : Instr} {f : State → Result} (m : Meaning i f) (hgrows : i.growsDataStack = true)
    (hneeded : i.dataNeeded ≤ s.D.length) (hfull : hasRoom s.config.dsDepth s.D = false) :
    f s = .fault .dstackOverflow := by
  cases m with
  | binary inputs f plain =>
    obtain rfl : inputs = .kept := by simpa [plain.grows] using hgrows
    rw [plain.needs] at hneeded
    match hD : s.D, hneeded with
    | x2 :: x1 :: rest, _ => exact binary_kept_of_full hD hfull
  | unary inputs f plain =>
    obtain rfl : inputs = .kept := by simpa [plain.grows] using hgrows
    rw [plain.needs] at hneeded
    match hD : s.D, hneeded with
    | x1 :: rest, _ => exact unary_kept_of_full hD hfull
  | literal n v => exact pushD_of_full hfull
  | addressToD n disp => exact pushD_of_full hfull
  -- the others do not grow it
  | addressToR n disp plain => simp [plain.grows] at hgrows
  | store n plain => simp [plain.grows] at hgrows
  | load signed n plain => simp [plain.grows] at hgrows
  | enable b plain => simp [plain.grows] at hgrows
  | stop tr transfer => simp [transfer.grows] at hgrows
  | jump n disp transfer => simp [transfer.grows] at hgrows
  | call n disp transfer => simp [transfer.grows] at hgrows
  | cond a b c y _ grows => simp [grows] at hgrows
  | illegal op _ grows => simp [grows] at hgrows
  | pop | push | jmpdi | calldi | ret | switch | crStore | crFetch | sec | rFetch => cases hgrows

/-- Settles O29: POP and R@ find their cell on the return stack and then no room. -/
theorem dataStackOverflow : Obligations.DataStackOverflow := by
  intro s d hdepth hlen
  have hfull := hasRoom_eq_false hdepth hlen
  refine ⟨fun i hgrows hneeded => (exec_meaning i).dstackOverflow hgrows (by omega) hfull, fun hRs => ?_⟩
  obtain ⟨x, rest, hcons⟩ := List.exists_cons_of_ne_nil hRs
  exact ⟨execPop_of_full hcons hfull, execRFetch_of_full hcons hfull⟩

/-- Settles O30: on an empty return stack the pop faults, on a full one the push. -/
theorem returnStackFaults : Obligations.ReturnStackFaults := by
  refine ⟨fun s hRs => ?empty, fun s d d8 d16 d32 d64 hdepth hlen => ?full⟩
  case empty =>
    exact ⟨execPop_of_nil hRs, execRet_of_nil hRs, execRFetch_of_nil hRs, fun h => execSwitch_of_nil h hRs⟩
  case full =>
    have hfull := hasRoom_eq_false hdepth hlen
    refine ⟨fun hD => ?push, fun hD h => execCalldi_of_full h hD hfull, fun h => ?call, ?pear⟩
    case push =>
      obtain ⟨x, rest, hcons⟩ := List.exists_cons_of_ne_nil hD
      exact execPush_of_full hcons hfull
    case call =>
      exact ⟨call_of_full 1 _ h hfull, call_of_full 2 _ h hfull, call_of_full 4 _ h hfull, call_of_full 8 _ h hfull⟩
    case pear =>
      exact ⟨addressToR_of_full 1 _ hfull, addressToR_of_full 2 _ hfull, addressToR_of_full 4 _ hfull,
        addressToR_of_full 8 _ hfull⟩

end Sys2Proof.Machine
end

section
/-! PROOF. The two settings of PREFIX_PERSIST (10_state.md R33, 70_reset_and_hazards.md R386): one rule per operation,
then one case per meaning. -/

namespace Sys2Proof.Machine

variable {s : State}

/-- Two answers that are the same but for the setting of PREFIX_PERSIST: `x` under false, `y` under true. -/
def SameButPersist (x y : Result) : Prop := mapNext (fun t => t.withPersist true) x = y

/-! ### The latches: what one setting clears and the other keeps is not there -/

theorem State.takeLatches_plain_withPersist (hcond : s.condp = none) (hsec : s.secp = false) :
    ((s.withPersist false).takeLatches .plain).withPersist true = (s.withPersist true).takeLatches .plain := by
  apply State.eq_of_fields
  case hcondp => exact hcond.symm
  case hsecp => exact hsec.symm
  all_goals rfl

theorem State.takeLatches_transfer_withPersist (hsec : s.secp = false) :
    ((s.withPersist false).takeLatches .transfer).withPersist true = (s.withPersist true).takeLatches .transfer := by
  apply State.eq_of_fields
  case hsecp => exact hsec.symm
  all_goals rfl

/-! ### The operations -/

theorem SameButPersist.next {t u : State} (h : t.withPersist true = u) : SameButPersist (.next t) (.next u) :=
  congrArg Host.Outcome.next h

theorem SameButPersist.fault (r : Fault) : SameButPersist (.fault r) (.fault r) := rfl

theorem SameButPersist.raiseTrap (tr : Trap) (s : State) :
    SameButPersist (raiseTrap tr (s.withPersist false)) (raiseTrap tr (s.withPersist true)) := rfl

theorem SameButPersist.finish (len : Nat) (hcond : s.condp = none) (hsec : s.secp = false) :
    SameButPersist (finish len (s.withPersist false)) (finish len (s.withPersist true)) :=
  .next (congrArg (State.advance len) (State.takeLatches_plain_withPersist hcond hsec))

/-- A transfer, taken or not. -/
theorem SameButPersist.transfer (pc : Cell) (hsec : s.secp = false) :
    SameButPersist (.next (((s.withPersist false).takeLatches .transfer).withPc pc))
      (.next (((s.withPersist true).takeLatches .transfer).withPc pc)) :=
  .next (congrArg (fun t => t.withPc pc) (State.takeLatches_transfer_withPersist hsec))

theorem SameButPersist.pass (n : Nat) (hsec : s.secp = false) :
    SameButPersist (.next (((s.withPersist false).takeLatches .transfer).advance n))
      (.next (((s.withPersist true).takeLatches .transfer).advance n)) :=
  .next (congrArg (State.advance n) (State.takeLatches_transfer_withPersist hsec))

theorem SameButPersist.ite {c : Bool} {x x' y y' : Result} (hx : SameButPersist x x') (hy : SameButPersist y y') :
    SameButPersist (if c then x else y) (if c then x' else y') := by
  cases c with
  | false => exact hy
  | true => exact hx

section Stacks

variable {v : Cell} {k k' : State → Result} {p p' : Cell → State → Result}

theorem SameButPersist.pushD
    (hk : SameButPersist (k ((s.withD (v :: s.D)).withPersist false)) (k' ((s.withD (v :: s.D)).withPersist true))) :
    SameButPersist (pushD v (s.withPersist false) k) (pushD v (s.withPersist true) k') := by
  cases hroom : hasRoom s.config.dsDepth s.D with
  | false =>
    rw [pushD_of_full (s := s.withPersist false) hroom, pushD_of_full (s := s.withPersist true) hroom]
    exact .fault _
  | true =>
    rw [pushD_of_hasRoom (s := s.withPersist false) hroom, pushD_of_hasRoom (s := s.withPersist true) hroom]
    exact hk

theorem SameButPersist.pushR
    (hk : SameButPersist (k ((s.withRs (v :: s.Rs)).withPersist false))
      (k' ((s.withRs (v :: s.Rs)).withPersist true))) :
    SameButPersist (pushR v (s.withPersist false) k) (pushR v (s.withPersist true) k') := by
  cases hroom : hasRoom s.config.rsDepth s.Rs with
  | false =>
    rw [pushR_of_full (s := s.withPersist false) hroom, pushR_of_full (s := s.withPersist true) hroom]
    exact .fault _
  | true =>
    rw [pushR_of_hasRoom (s := s.withPersist false) hroom, pushR_of_hasRoom (s := s.withPersist true) hroom]
    exact hk

theorem SameButPersist.popD
    (hp : ∀ x rest, SameButPersist (p x ((s.withD rest).withPersist false)) (p' x ((s.withD rest).withPersist true))) :
    SameButPersist (popD (s.withPersist false) p) (popD (s.withPersist true) p') := by
  cases hD : s.D with
  | nil =>
    rw [popD_of_nil (s := s.withPersist false) hD, popD_of_nil (s := s.withPersist true) hD]
    exact .fault _
  | cons x rest =>
    rw [popD_of_cons (s := s.withPersist false) hD, popD_of_cons (s := s.withPersist true) hD]
    exact hp x rest

theorem SameButPersist.popS
    (hp : ∀ x rest, SameButPersist (p x ((s.withD rest).withPersist false)) (p' x ((s.withD rest).withPersist true))) :
    SameButPersist (popS (s.withPersist false) p) (popS (s.withPersist true) p') := by
  rcases Nat.lt_or_ge s.D.length 2 with hshort | hlong
  · rw [popS_of_short (s := s.withPersist false) hshort, popS_of_short (s := s.withPersist true) hshort]
    exact .fault _
  · match hD : s.D, hlong with
    | top :: x :: rest, _ =>
      rw [popS_of_cons (s := s.withPersist false) hD, popS_of_cons (s := s.withPersist true) hD]
      exact hp x (top :: rest)

theorem SameButPersist.popR
    (hp : ∀ x rest,
      SameButPersist (p x ((s.withRs rest).withPersist false)) (p' x ((s.withRs rest).withPersist true))) :
    SameButPersist (popR (s.withPersist false) p) (popR (s.withPersist true) p') := by
  cases hRs : s.Rs with
  | nil =>
    rw [popR_of_nil (s := s.withPersist false) hRs, popR_of_nil (s := s.withPersist true) hRs]
    exact .fault _
  | cons x rest =>
    rw [popR_of_cons (s := s.withPersist false) hRs, popR_of_cons (s := s.withPersist true) hRs]
    exact hp x rest

end Stacks

/-! ### The meanings that look at a stack themselves -/

section Plain

variable (hcond : s.condp = none) (hsec : s.secp = false)

include hcond hsec

theorem SameButPersist.binary (inputs : Inputs) (f : Cell → Cell → Bool → Cell × Bool) :
    SameButPersist (binary inputs f (s.withPersist false)) (binary inputs f (s.withPersist true)) := by
  rcases Nat.lt_or_ge s.D.length 2 with hshort | hlong
  · rw [binary_of_short (s := s.withPersist false) hshort, binary_of_short (s := s.withPersist true) hshort]
    exact .fault _
  match hD : s.D, hlong with
  | x2 :: x1 :: rest, _ =>
    cases inputs with
    | kept =>
      rw [binary_kept_eq_pushD (s := s.withPersist false) hD, binary_kept_eq_pushD (s := s.withPersist true) hD]
      exact .pushD (.finish (s := (s.withD ((f x1 x2 s.C).1 :: s.D)).withC (f x1 x2 s.C).2) 1 hcond hsec)
    | popped =>
      rw [binary_popped_eq_finish (s := s.withPersist false) hD,
        binary_popped_eq_finish (s := s.withPersist true) hD]
      exact .finish (s := (s.withD ((f x1 x2 s.C).1 :: rest)).withC (f x1 x2 s.C).2) 1 hcond hsec

theorem SameButPersist.unary (inputs : Inputs) (f : Cell → Cell) :
    SameButPersist (unary inputs f (s.withPersist false)) (unary inputs f (s.withPersist true)) := by
  cases hD : s.D with
  | nil =>
    rw [unary_of_nil (s := s.withPersist false) hD, unary_of_nil (s := s.withPersist true) hD]
    exact .fault _
  | cons x1 rest =>
    cases inputs with
    | kept =>
      rw [unary_kept_eq_pushD (s := s.withPersist false) hD, unary_kept_eq_pushD (s := s.withPersist true) hD]
      exact .pushD (.finish (s := s.withD (f x1 :: s.D)) 1 hcond hsec)
    | popped =>
      rw [unary_popped_eq_finish (s := s.withPersist false) hD, unary_popped_eq_finish (s := s.withPersist true) hD]
      exact .finish (s := s.withD (f x1 :: rest)) 1 hcond hsec

theorem SameButPersist.storeCells (n : Nat) :
    SameButPersist (storeCells n (s.withPersist false)) (storeCells n (s.withPersist true)) := by
  rcases Nat.lt_or_ge s.D.length 2 with hshort | hlong
  · rw [storeCells_of_short (s := s.withPersist false) hshort, storeCells_of_short (s := s.withPersist true) hshort]
    exact .fault _
  match hD : s.D, hlong with
  | top :: second :: rest, _ =>
    rw [storeCells_eq_memWrite (s := s.withPersist false) hD, storeCells_eq_memWrite (s := s.withPersist true) hD]
    exact .ite (.raiseTrap _ s) (.ite (.finish (s := (s.store _ n _).withD rest) 1 hcond hsec) (.raiseTrap _ s))

theorem SameButPersist.loadCell (signed : Bool) (n : Nat) :
    SameButPersist (loadCell signed n (s.withPersist false)) (loadCell signed n (s.withPersist true)) := by
  cases hD : s.D with
  | nil =>
    rw [loadCell_of_nil (s := s.withPersist false) hD, loadCell_of_nil (s := s.withPersist true) hD]
    exact .fault _
  | cons a rest =>
    rw [loadCell_eq_memRead (s := s.withPersist false) hD, loadCell_eq_memRead (s := s.withPersist true) hD]
    exact .ite (.raiseTrap _ s) (.ite (.finish (s := s.withD _) 1 hcond hsec) (.raiseTrap _ s))

theorem SameButPersist.execRFetch :
    SameButPersist (execRFetch (s.withPersist false)) (execRFetch (s.withPersist true)) := by
  cases hRs : s.Rs with
  | nil =>
    rw [execRFetch_of_nil (s := s.withPersist false) hRs, execRFetch_of_nil (s := s.withPersist true) hRs]
    exact .fault _
  | cons x rest =>
    rw [execRFetch_of_cons (s := s.withPersist false) hRs, execRFetch_of_cons (s := s.withPersist true) hRs]
    exact .pushD (.finish (s := s.withD (x :: s.D)) 1 hcond hsec)

end Plain

/-- A COND writes the one latch and takes the other, whatever was pending (R250). -/
theorem SameButPersist.condPrefix (a b c y : Bool) (s : State) :
    SameButPersist (condPrefix a b c y (s.withPersist false)) (condPrefix a b c y (s.withPersist true)) := by
  cases hsec : s.secp with
  | false =>
    rw [condPrefix_eq_popD (s := s.withPersist false) hsec, condPrefix_eq_popD (s := s.withPersist true) hsec]
    exact .popD fun _ _ => .next rfl
  | true =>
    rw [condPrefix_eq_popS (s := s.withPersist false) hsec, condPrefix_eq_popS (s := s.withPersist true) hsec]
    exact .popS fun _ _ => .next rfl

/-- Settles O25: a pending latch that an instruction other than COND does not read is ruled out, and the two settings
differ in nothing else. -/
theorem prefixPersistIrrelevant : Obligations.PrefixPersistIrrelevant := by
  intro i s henv hcondRead hsecRead
  have hsec (h : i.isCond = false) : s.secp = false := by
    cases hs : s.secp with
    | false => rfl
    | true => simp [hsecRead hs] at h
  have hcond (hr : i.readsCond = false) (h : i.isCond = false) : s.condp = none := by
    by_contra hs
    simpa [hr, h] using hcondRead hs
  have m := exec_meaning i
  generalize exec i = f at m ⊢
  change SameButPersist (f (s.withPersist false)) (f (s.withPersist true))
  cases m with
  | binary inputs f plain =>
    exact .binary (hcond plain.notReads plain.notCond) (hsec plain.notCond) _ _
  | unary inputs f plain => exact .unary (hcond plain.notReads plain.notCond) (hsec plain.notCond) _ _
  | literal n v plain =>
    exact .pushD (.finish (s := s.withD _) _ (hcond plain.notReads plain.notCond) (hsec plain.notCond))
  | addressToD n disp plain =>
    exact .pushD (.finish (s := s.withD _) _ (hcond plain.notReads plain.notCond) (hsec plain.notCond))
  | addressToR n disp plain =>
    exact .pushR (.finish (s := s.withRs _) _ (hcond plain.notReads plain.notCond) (hsec plain.notCond))
  | cond a b c y => exact .condPrefix a b c y s
  | stop tr transfer => exact .ite (.next rfl) (.pass _ (hsec transfer.notCond))
  | jump n disp transfer => exact .ite (.transfer _ (hsec transfer.notCond)) (.pass _ (hsec transfer.notCond))
  | call n disp transfer =>
    exact .ite (.pushR (.transfer (s := s.withRs _) _ (hsec transfer.notCond))) (.pass _ (hsec transfer.notCond))
  | store n plain => exact .storeCells (hcond plain.notReads plain.notCond) (hsec plain.notCond) _
  | load signed n plain => exact .loadCell (hcond plain.notReads plain.notCond) (hsec plain.notCond) _ _
  | enable b plain =>
    exact .ite (.raiseTrap _ s)
      (.finish (s := s.withIE b) _ (hcond plain.notReads plain.notCond) (hsec plain.notCond))
  | illegal op => exact .raiseTrap _ s
  | pop => exact .popR fun _ _ => .pushD (.finish (s := (s.withRs _).withD _) _ (hcond rfl rfl) (hsec rfl))
  | push => exact .popD fun _ _ => .pushR (.finish (s := (s.withD _).withRs _) _ (hcond rfl rfl) (hsec rfl))
  | jmpdi =>
    exact .popD fun _ _ => .ite (.transfer (s := s.withD _) _ (hsec rfl)) (.pass (s := s.withD _) _ (hsec rfl))
  | calldi =>
    exact .ite (.popD fun _ _ => .pushR (.transfer (s := (s.withD _).withRs _) _ (hsec rfl))) (.pass _ (hsec rfl))
  | ret =>
    exact .popR fun _ _ => .ite (.transfer (s := s.withRs _) _ (hsec rfl)) (.pass (s := s.withRs _) _ (hsec rfl))
  | switch =>
    exact .ite (.popR fun _ _ => .transfer (s := (s.withRs _).withRs _) _ (hsec rfl)) (.pass _ (hsec rfl))
  | crStore => cases henv
  | crFetch => cases henv
  | sec =>
    exact .next (congrArg (fun t => (t.withSecp true).advance 1)
      (State.takeLatches_plain_withPersist (hcond rfl rfl) (hsec rfl)))
  | rFetch => exact .execRFetch (hcond rfl rfl) (hsec rfl)

end Sys2Proof.Machine
end
